-- ==== Sys2Proof/Word.lean ====
section
/-! DEFINITION. The words of the part: a byte of a packet, a table or a report; and a timestamp, a value of the 48-bit
reference count (R1). -/

namespace Sys2Proof

/-- One byte of a packet, a table entry, a report or the stacked DRAM. -/
abbrev Byte := BitVec 8

/-- A value of the 48-bit reference count of 27 MHz ticks (R1). Every timestamp of the part is one. -/
abbrev Time := BitVec 48

/-- An asset id, 0 to 511 (00_scope, Names). -/
abbrev AssetId := Fin 512

end Sys2Proof
end

