-- ==== Sys2Proof/Data.lean ====
section
/-! DEFINITION. The data that a command or an event carries: which input, the picture of an input frame, the levels of the
pins at the release of device reset, the order in which one output frame start is taken, and the reasons of refusals. -/

namespace Sys2Proof

/-- The two input stream links. -/
inductive InputId where
  | pgm
  | iso
deriving DecidableEq, Repr

/-- A pixel of an input picture. Every pixel of an input picture has alpha 255 (R6), so none is carried. -/
structure Rgb where
  r : Byte
  g : Byte
  b : Byte
deriving DecidableEq, Repr

/-- A picture as rows of pixels, row by row from the top, each row from the left. -/
structure Picture where
  width : Nat
  height : Nat
  pixels : List Rgb
deriving DecidableEq, Repr

/-- What the link layer gives a receiver for one input frame (R2): whether the picture is whole, whether the frame check
is correct, and the picture. -/
structure InputFrame where
  whole : Bool
  checkCorrect : Bool
  picture : Picture
deriving DecidableEq, Repr

/-- The levels of the pins at the instant device reset is released (R3, R19, R185). `true` is high, or signal present. -/
structure Pins where
  straps : BitVec 4
  rateSel : Bool
  pgmSignal : Bool
  isoSignal : Bool
  contacts : BitVec 4
deriving DecidableEq, Repr

/-- The order in which the parts of ONE output frame start are taken, where the spec says that either may be taken first.
It is an operand of the event, so that a statement about every operand holds for every order (notes/assumptions/5.md). -/
structure FrameOrder where
  /-- the report slot is filled before the commits of this frame start (R41, section 2.11) -/
  slotBeforeCommits : Bool
  /-- the status frame count rises before the commits of this frame start (R42, R45) -/
  countBeforeCommits : Bool
  /-- the status frame count rises before the slot is filled, where both stand on one side of the commits (R41, R42) -/
  countBeforeSlot : Bool
  /-- the next free-run frame start is scheduled before a DEVICE commit (R21) -/
  scheduleBeforeDevice : Bool
  /-- a MEMORY load is judged before the player's stages (R67) -/
  memoryBeforeReplay : Bool
  /-- the triggers of this frame start are taken before a CUES commit (R189) -/
  triggersBeforeCues : Bool
deriving DecidableEq, Repr

/-- The reasons of refusals (R38). -/
inductive Reason where
  | notLocked | unknownKind | badLength | guarded | isolated | badTable | range | order | busy
  | clamped | inUse | noSpace | notReady | exhausted | outOfRing | notValid | noClip | notPaused
  | limit | mode | badField | vacant | full | duplicate | notFound | notDefined
deriving DecidableEq, Repr

end Sys2Proof
end

