-- ==== Sys2Proof/Config.lean ====
section
/-! DEFINITION. The constants of the part: rates and timeouts of the links, durations in ticks, the sizes of its tables,
queues and memories. The spec fixes all of them; it leaves none to an implementation, so no value here is free. -/

namespace Sys2Proof

/-- The three nominal frame rates (00_scope, Time). -/
inductive Rate where
  | hz50
  | hz5994
  | hz60
deriving DecidableEq, Repr

namespace Config

/-- One millisecond in ticks (00_scope, Time). -/
def ticksPerMs : Nat := 27000
/-- One second in ticks (00_scope, Time). -/
def ticksPerSecond : Nat := 27000000
/-- The frame timeout while ACQUIRING (R3). -/
def acquiringTimeout : Nat := 810000
/-- The largest picture an input frame of valid structure has (R2). -/
def maxFrameWidth : Nat := 4096
def maxFrameHeight : Nat := 2048
/-- The good run that gives lock, and the bad run that takes it (R3, R4). -/
def lockRun : Nat := 8
def lossRun : Nat := 3
/-- The most packets examined from one input frame (R22). -/
def packetsPerFrame : Nat := 16
/-- The largest payload of a control packet (R23). -/
def maxPayload : Nat := 248
/-- The top of the health counter, and the counts at which GUARDED and ISOLATED begin (R26, R27). -/
def healthTop : Nat := 511
def guardedFrom : Nat := 128
def isolatedFrom : Nat := 256
/-- The load timer of a table (R32) and of an asset (R75), in ticks. -/
def loadTimer : Nat := 54000000
def assetLoadTimer : Nat := 270000000
/-- The report queue's size (R39) and the bytes of one readback chunk (R37). -/
def reportQueueSize : Nat := 128
def chunkSize : Nat := 56
/-- The blocks of the stacked DRAM, the bytes of one, and the blocks of one ring slot (R66). -/
def dramBlocks : Nat := 524288
def blockBytes : Nat := 65536
def slotBlocks : Nat := 128
def dramBytes : Nat := 34359738368
/-- The largest ring (R67). -/
def maxRingSlots : Nat := 3584
/-- The largest picture stored whole in a ring slot, in pixels (R84). -/
def slotPixels : Nat := 2097152
/-- The largest gap count (R84) and the last record number (R89). -/
def maxGap : Nat := 65535
def lastRecord : Nat := 4294967295
/-- Vmax, the largest clock value, in ticks (R107). -/
def vmax : Nat := 162000000000
/-- The ticks of one tenth of a second (R126). -/
def ticksPerTenth : Nat := 2700000
/-- The top of a 48-bit account (R146). -/
def accountTop : Nat := 281474976710655
/-- The sizes of the settlement log (R164) and of the message queue (R167). -/
def settlementLogSize : Nat := 128
def messageQueueSize : Nat := 32
/-- The largest horn duration of a command, in ms (R188). -/
def maxHornMs : Nat := 10000

end Config

end Sys2Proof
end

