-- ==== Sys2Proof/Machine/Bytes.lean ====
section
/-! DEFINITION. Bytes: numbers sent most significant byte first, the sizes and the padding of the loadable tables, the device
reset value of each table as bytes, and the two CRCs. -/

namespace Sys2Proof.Machine

/-- The `width` bytes of `n`, most significant first (R23). -/
def be : Nat → Nat → List Byte
  | 0, _ => []
  | width + 1, n => BitVec.ofNat 8 (n / 256 ^ width) :: be width n

/-- The number that bytes hold, most significant first (R23). -/
def beValue (bs : List Byte) : Nat := bs.foldl (fun n b => n * 256 + b.toNat) 0

/-- The number in the `len` bytes from byte `off` of an entry on. -/
def beAt (bs : List Byte) (off len : Nat) : Nat := beValue ((bs.drop off).take len)

/-- One byte of an entry. -/
def byteAt (bs : List Byte) (off : Nat) : Nat := (bs.getD off 0).toNat

/-- `k` zero bytes. -/
def zeros (k : Nat) : List Byte := List.replicate k 0

/-- `bs` with `new` written over it from byte `off` on. -/
def overwrite (bs : List Byte) (off : Nat) (new : List Byte) : List Byte :=
  bs.take off ++ new ++ bs.drop (off + new.length)

/-! ### The loadable tables (section 2.5) -/

/-- The table ids of the loadable tables (section 2.5). SETTLEMENT, id 15, is read back only. -/
def tblDevice : Fin 15 := 0
def tblUnit : Fin 15 := 1
def tblSegments : Fin 15 := 2
def tblMemory : Fin 15 := 7
def tblClocks : Fin 15 := 8
def tblPanels : Fin 15 := 9
def tblContracts : Fin 15 := 10
def tblLanes : Fin 15 := 11
def tblTemplates : Fin 15 := 12
def tblCues : Fin 15 := 13
def tblContacts : Fin 15 := 14

/-- The table id of LAYOUT0 to LAYOUT3. -/
def tblLayout (n : Fin 4) : Fin 15 := ⟨3 + n.val, by omega⟩

/-- The number of entries of a table, by its id (section 2.5). -/
def tableEntries : Nat → Nat
  | 0 => 8 | 1 => 7 | 2 => 4 | 3 => 16 | 4 => 16 | 5 => 16 | 6 => 16 | 7 => 1 | 8 => 4 | 9 => 8
  | 10 => 64 | 11 => 8 | 12 => 9 | 13 => 32 | 14 => 4 | 15 => 128 | _ => 0

/-- The size of an entry of a table in bytes, by its id (section 2.5); an id above 15 counts as size 0 (R30). -/
def entrySize : Nat → Nat
  | 0 => 4 | 1 => 4 | 2 => 12 | 3 => 20 | 4 => 20 | 5 => 20 | 6 => 20 | 7 => 4 | 8 => 32 | 9 => 208
  | 10 => 32 | 11 => 40 | 12 => 16 | 13 => 16 | 14 => 4 | 15 => 24 | _ => 0

/-- Entry `i` of a table held as bytes. -/
def entryOf (bs : List Byte) (size i : Nat) : List Byte := (bs.drop (size * i)).take size

/-- Is byte `off` of entry `i` of this table padding (sent as 0, ignored on load, read back as 0), or, for CUES, one of the
bytes 13 to 15 that a load ignores? -/
def isPadding (table i off : Nat) : Bool :=
  match table with
  | 0 => i = 6 ∧ off = 0
  | 2 => 9 ≤ off
  | 3 => 15 ≤ off
  | 4 => 15 ≤ off
  | 5 => 15 ≤ off
  | 6 => 15 ≤ off
  | 7 => 2 ≤ off
  | 8 => off = 3 ∨ 27 ≤ off
  | 9 => 6 ≤ off ∧ off < 16
  | 11 => 37 ≤ off
  | 12 => (i = 0 ∧ 1 ≤ off) ∨ 11 ≤ off
  | 13 => 13 ≤ off
  | _ => false

/-- The bytes of a load segment as the staging copy takes them: padding bytes become 0. The segment's first entry is
`first`. -/
def clearPadding (table first : Nat) (bs : List Byte) : List Byte :=
  bs.mapIdx fun k b =>
    if isPadding table (first + k / entrySize table) (k % entrySize table) then 0 else b

/-! ### Device reset values of the tables -/

/-- The DEVICE table at device reset (section 1.7): the default rate is read from RATESEL, low 50 Hz and high 59.94 Hz. -/
def resetDevice (rateSel : Bool) : List Byte :=
  be 4 240 ++ be 4 135 ++ be 4 (if rateSel then 1 else 0) ++ be 4 2000 ++ be 4 4 ++ be 4 60 ++ be 4 0 ++ be 4 0xFFFF

/-- The UNIT table at device reset (section 2.9): the low four bits of the unit address are the straps. -/
def resetUnit (straps : BitVec 4) : List Byte :=
  be 4 straps.toNat ++ be 4 0xFFF ++ be 4 1 ++ be 4 2 ++ be 4 30 ++ be 4 0xFFFF ++ be 4 30

/-- The SEGMENTS table at device reset (R65). -/
def resetSegments : List Byte :=
  (1 :: be 2 0 ++ be 2 0 ++ be 2 240 ++ be 2 135 ++ zeros 3) ++ zeros 36

/-- A disabled zone at device reset (R65). DESIGN CHOICE: its source index, of which R65 says nothing, is 0
(notes/assumptions/40.md). -/
def resetZone : List Byte := zeros 14 ++ [2] ++ zeros 5

/-- Zone 15 at device reset (R65): enabled, all masks ones, source PROGRAM, scale code 2. DESIGN CHOICE: its source
index is 0 (notes/assumptions/40.md). -/
def resetZone15 : List Byte :=
  [1] ++ be 2 0 ++ be 2 0x1FF ++ [0, 0xFF, 1] ++ be 2 0 ++ be 2 0 ++ be 2 0 ++ [2] ++ zeros 5

/-- A LAYOUT table at device reset (R65). -/
def resetLayout : List Byte := (List.replicate 15 resetZone).flatten ++ resetZone15

/-- The MEMORY table at device reset (R82). -/
def resetMemory : List Byte := be 2 2048 ++ zeros 2

/-- A CLOCKS entry at device reset (R107). -/
def resetClock : List Byte :=
  [0, 0, 1, 0] ++ be 5 0 ++ be 4 0 ++ be 4 13500000 ++ be 4 27000 ++ be 2 2000 ++ be 2 600 ++ be 2 1500 ++ zeros 5

/-- A PANELS entry at device reset (R144). -/
def resetPanel : List Byte := be 2 0 ++ be 2 0 ++ be 2 0xFFFF ++ zeros 202

/-- A CONTRACTS entry at device reset (R166). -/
def resetContract : List Byte :=
  be 4 0 ++ be 6 0 ++ be 6 0 ++ [0, 0] ++ be 2 0 ++ [0, 0] ++ be 2 0xFFFF ++ be 2 0xFFFF ++ be 2 0xFFFF ++ be 2 0xFFFF ++ be 2 0

/-- A LANES entry at device reset (R166). DESIGN CHOICE: the 32 bytes of the rotation list, of which R166 gives the length 0 alone,
are 0 (notes/assumptions/40.md). -/
def resetLane : List Byte := [0] ++ zeros 32 ++ be 2 300 ++ be 2 0xFFFF ++ zeros 3

/-- A CONTACTS entry at device reset (R187). -/
def resetContact : List Byte := [10, 0, 0, 0]

/-- The bytes of every loadable table at device reset, in the order of the table ids. -/
def resetTables (straps : BitVec 4) (rateSel : Bool) : Vector (List Byte) 15 :=
  ⟨#[resetDevice rateSel, resetUnit straps, resetSegments, resetLayout, resetLayout, resetLayout, resetLayout, resetMemory,
    (List.replicate 4 resetClock).flatten, (List.replicate 8 resetPanel).flatten,
    (List.replicate 64 resetContract).flatten, (List.replicate 8 resetLane).flatten, zeros 144, zeros 512,
    (List.replicate 4 resetContact).flatten], rfl⟩

/-! ### CRCs -/

/-- One bit of the CRC of control and report packets: polynomial x^16 + x^12 + x^5 + 1 (R23). -/
def crc16Bit (c : BitVec 16) (b : Bool) : BitVec 16 :=
  if c.msb ^^ b then (c <<< 1) ^^^ 0x1021 else c <<< 1

/-- One byte of that CRC, most significant bit first (R23). -/
def crc16Byte (c : BitVec 16) (b : Byte) : BitVec 16 :=
  [7, 6, 5, 4, 3, 2, 1, 0].foldl (fun c k => crc16Bit c (b.getLsbD k)) c

/-- The CRC of control and report packets; the register starts at FFFFh (R23). -/
def crc16 (bs : List Byte) : BitVec 16 := bs.foldl crc16Byte 0xFFFF

/-- One bit of the reflected CRC-32 with polynomial 04C11DB7h (R74). -/
def crc32Bit (c : BitVec 32) : BitVec 32 :=
  if c.getLsbD 0 then (c >>> 1) ^^^ 0xEDB88320 else c >>> 1

/-- One byte of the CRC-32, least significant bit first (R74). -/
def crc32Byte (c : BitVec 32) (b : Byte) : BitVec 32 :=
  (List.range 8).foldl (fun c _ => crc32Bit c) (c ^^^ b.setWidth 32)

/-- The running check of an asset after more bytes (R74). -/
def crc32Run (c : BitVec 32) (bs : List Byte) : BitVec 32 := bs.foldl crc32Byte c

/-- The register at the start of an asset's data (R74). -/
def crc32Start : BitVec 32 := 0xFFFFFFFF

end Sys2Proof.Machine
end

