-- ==== Sys2Proof/Syntax.lean ====
section
/-! DEFINITION. The commands and events of the part: one constructor for each row of spec/opcode_table.json.

`t` is the value of the reference count at which the command or the event is taken (R1, R28). A command's other operands are
the fields of its payload as sent: each has the width of its bytes, so that a value out of range can be carried and refused. -/

namespace Sys2Proof

inductive Instr where
  /-- Device reset is released with the pins at these levels (R19). -/
  | deviceReset (pins : Pins)
  /-- Initialization of the stacked DRAM is done (R10, R19). -/
  | dramInitDone (t : Time)
  /-- The physical layer reports signal on an input (R3). -/
  | signalPresent (t : Time) (i : InputId)
  /-- The physical layer reports loss of signal on an input (R3, R4). -/
  | signalAbsent (t : Time) (i : InputId)
  /-- An input frame start, with what the link layer gives for the frame (R2). -/
  | inputFrameStart (t : Time) (i : InputId) (f : InputFrame)
  /-- The frame timeout of an ACQUIRING input (R3). -/
  | acquiringFrameTimeout (t : Time) (i : InputId)
  /-- The frame timeout of a LOCKED input (R4). -/
  | lockedFrameTimeout (t : Time) (i : InputId)
  /-- An input's hold timer expires (R8). -/
  | holdTimerExpiry (t : Time) (i : InputId)
  /-- The relock window timer expires (R11). -/
  | relockWindowExpiry (t : Time)
  /-- A scheduled output frame start occurs (R18). -/
  | outputFrameStart (t : Time) (o : FrameOrder)
  /-- A control packet's check completes. `bytes` are the packet's bytes from its PREAMBLE on, as far as the ancillary
  area holds them (R23, R24). -/
  | packetArrival (t : Time) (i : InputId) (bytes : List Byte)
  | resume (t : Time)
  | controlReset (t : Time)
  | statusRequest (t : Time)
  /-- `entries` are the bytes of the entries (R30). -/
  | load (t : Time) (table : Byte) (first : BitVec 16) (count : Byte) (flags : Byte) (entries : List Byte)
  | readTable (t : Time) (table : Byte) (first : BitVec 16) (count : Byte)
  | layoutSelect (t : Time) (layout : Byte)
  | assetOpen (t : Time) (id : BitVec 16) (kind : Byte) (width : BitVec 16) (height : BitVec 16) (frames : Byte) (interval : Byte)
  | assetData (t : Time) (id : BitVec 16) (offset : BitVec 40) (data : List Byte)
  | assetClose (t : Time) (id : BitVec 16) (check : BitVec 32)
  | assetDrop (t : Time) (id : BitVec 16)
  | recordStart (t : Time) (source : Byte)
  | recordStop (t : Time)
  | markIn (t : Time) (mark : Byte) (point : Byte) (number : BitVec 32) (label : BitVec 16)
  | markOut (t : Time) (mark : Byte) (point : Byte) (number : BitVec 32)
  | markClear (t : Time) (mark : Byte)
  | cue (t : Time) (mark : Byte)
  | play (t : Time) (mark : Byte) (n : Byte) (d : Byte) (endAction : Byte)
  | pause (t : Time)
  | continuePlay (t : Time)
  | step (t : Time) (amount : BitVec 16)
  | playerStop (t : Time)
  | clockStart (t : Time) (channel : Byte)
  | clockStop (t : Time) (channel : Byte)
  | clockSet (t : Time) (channel : Byte) (ms : BitVec 32)
  | clockAdjust (t : Time) (channel : Byte) (ms : BitVec 32)
  | clockPreset (t : Time) (channel : Byte)
  | clockReport (t : Time) (channel : Byte) (ms : BitVec 32) (running : Byte)
  | scoreSet (t : Time) (field : Byte) (value : BitVec 16)
  | scoreAdd (t : Time) (field : Byte) (delta : BitVec 16)
  | contractPause (t : Time) (contract : Byte)
  | contractResume (t : Time) (contract : Byte)
  | periodClose (t : Time)
  | settleRemove (t : Time) (n : Byte)
  | post (t : Time) (tag : BitVec 16) (cls : Byte) (strip : BitVec 16) (lane : Byte) (mode : Byte) (pace : BitVec 16)
      (repeats : Byte) (lifetime : BitVec 16)
  | withdraw (t : Time) (tag : BitVec 16)
  | clearClass (t : Time) (cls : Byte)
  | horn (t : Time) (ms : BitVec 16)
  | cueArm (t : Time) (index : Byte)
  | cueDisarm (t : Time) (index : Byte)
  /-- The load timer of a table expires (R32). -/
  | loadTimerExpiry (t : Time) (table : Fin 15)
  /-- The unattended timer expires (R43). -/
  | unattendedTimerExpiry (t : Time)
  /-- The load timer of an asset expires (R75). -/
  | assetLoadTimerExpiry (t : Time) (id : AssetId)
  /-- A contact line changes level: `high` is the new level (R185). -/
  | contactLevelChange (t : Time) (line : Fin 4) (high : Bool)
  /-- The filter expiry of a contact line's candidate is reached (R185). -/
  | contactFilterExpiry (t : Time) (line : Fin 4)
  /-- The horn's end instant is reached (R188). -/
  | hornEnd (t : Time)
  /-- RESETN goes low, or power is lost (R19). -/
  | resetnHeldLow (t : Time)
deriving DecidableEq, Repr

end Sys2Proof
end

