-- ==== Sys2Proof/Machine/State.lean ====
section
/-! DEFINITION. The state of the part as plain data, block by block as 00_scope lists them, with the queue of waiting
commands; the reasons a step can stop; and the state after device reset. -/

namespace Sys2Proof.Machine

/-! ### Link receivers (section 1.2) -/

/-- The lock state of an input. A LOCKED input keeps the rate it locked at (R3, R4). -/
inductive Lock where
  | absent
  | acquiring
  | locked (rate : Rate)
deriving DecidableEq, Repr

/-- What an input offers to its users (R8). -/
inductive Feed where
  | live
  | hold
  | slate
deriving DecidableEq, Repr

/-- The last good frame of an input and the timestamp of its input frame start (R6). -/
structure Frozen where
  picture : Picture
  stamp : Time
deriving DecidableEq, Repr

/-- The state of one link receiver (section 1.2). -/
structure Receiver where
  lock : Lock
  signal : Bool
  runRate : Option Rate
  goodRun : Nat
  badRun : Nat
  latest : Option Time
  /-- the input frame starts before the newest, oldest first, at most eight -/
  history : List Time
  /-- PGM only: the measured period in ticks (R5) -/
  measured : Option Nat
  frozen : Option Frozen
  /-- the frozen frame as it stood when the feed, or for PGM the operating state, last left LIVE: HOLD offers it, no longer
  renewed (R8, section 1.4, notes/assumptions/32.md) -/
  held : Option Frozen
  feed : Feed
  /-- none: stopped; otherwise the expiry instant -/
  holdTimer : Option Time
  /-- the structure of the frame now arriving is valid, so that it yields packets (R7) -/
  structureValid : Bool
  /-- the packets examined from the frame now arriving (R22) -/
  packetCount : Nat
deriving DecidableEq, Repr

/-! ### Frame timing unit (sections 1.4 and 1.5) -/

/-- The program operating state (R10). -/
inductive OpState where
  | start
  | seeking
  | live
  | hold
  | fallback
  | lockout
deriving DecidableEq, Repr

structure Timing where
  op : OpState
  /-- the output period in use at the last output frame start, in ticks (R15, R16) -/
  outputPeriod : Nat
  /-- the last frame-start timestamp (R18) -/
  lastFrameStart : Time
  /-- the scheduled output frame starts, in time order (R14) -/
  schedule : List Time
  /-- LIVE has been entered and its first output frame start is not yet scheduled (R16) -/
  realigning : Bool
  relockCount : Nat
  /-- none: stopped; otherwise the expiry instant (R11) -/
  relockWindow : Option Time
deriving DecidableEq, Repr

/-! ### Control channel (chapter 2) -/

/-- The load state of one table (section 2.5), with its staging copy and, while OPEN, its load timer. -/
inductive LoadState where
  | idle
  | opened (staging : List Byte) (expiry : Time)
  | complete (staging : List Byte)
deriving DecidableEq, Repr

/-- The kinds of reports, in rank order (R38). -/
inductive ReportKind where
  | feed
  | refusal
  | clock
  | event
  | readback
  | status
deriving DecidableEq, Repr

/-- A pending report (R39). Its place in the queue is its place in the list, oldest first. -/
structure Report where
  kind : ReportKind
  topic : Nat
  item : Nat
  repeats : Nat
  payload : List Byte
deriving DecidableEq, Repr

/-- The readback cursor (R36): the table, the first byte to read, the bytes left and the chunk number, all of the chunk now
in the queue. -/
structure Readback where
  table : Nat
  next : Nat
  left : Nat
  chunk : Nat
deriving DecidableEq, Repr

structure Control where
  health : Nat
  loads : Vector LoadState 15
  unattended : Bool
  /-- none: stopped; otherwise the expiry instant (R43) -/
  unattendedTimer : Option Time
  queue : List Report
  lost : Nat
  statusCount : Nat
  readback : Option Readback
  /-- the report packet sent in the current output frame on the return channels of PGM and ISO (R41) -/
  sent : Option (List Byte)
deriving DecidableEq, Repr

/-! ### Clock unit (chapter 6); its channel records also make the snapshots of replay frames -/

inductive ClockState where
  | stopped
  | running
  | expired
deriving DecidableEq, Repr

inductive Direction where
  | down
  | up
deriving DecidableEq, Repr

/-- A console report that waits for the next frame start (R108, R114). -/
structure ConsoleReport where
  ms : Nat
  running : Bool
  arrival : Time
deriving DecidableEq, Repr

/-- The frame value of a channel (R125). -/
structure FrameValue where
  value : Nat
  state : ClockState
  stale : Bool
deriving DecidableEq, Repr

/-- The live state of a clock channel (R108). -/
structure Clock where
  state : ClockState
  value : Nat
  correction : Int
  ref : Time
  lastReport : Option Time
  stale : Bool
  console : Option ConsoleReport
  frame : FrameValue
  frameTenths : Nat
deriving DecidableEq, Repr

/-- One channel in the clock snapshot of a replay frame (R84). -/
structure ClockSnap where
  value : Nat
  state : ClockState
  direction : Direction
  stale : Bool
deriving DecidableEq, Repr

/-! ### Replay unit (chapter 5) -/

/-- A ring slot's frame: the stored picture with its metadata (R84). The stored size is the picture's. -/
structure RingFrame where
  number : Nat
  capture : Time
  source : InputId
  picture : Picture
  reduced : Bool
  snapshot : Vector ClockSnap 4
  gap : Nat
deriving DecidableEq, Repr

/-- The ring (R83). `slots` has one element for each slot, none where the slot holds nothing. -/
structure Ring where
  slots : List (Option RingFrame)
  writePos : Nat
  present : Nat
  /-- none while the ring is empty -/
  newest : Option Nat
deriving DecidableEq, Repr

inductive RecorderState where
  | idle
  | recording
  | wait
  | held
deriving DecidableEq, Repr

structure Recorder where
  state : RecorderState
  source : InputId
  gap : Nat
  /-- the clock snapshot of the source frame that is being taken, if one is (R88) -/
  snapshot : Option (Vector ClockSnap 4)
  lastNumber : Nat
  exhausted : Bool
deriving DecidableEq, Repr

/-- The points and label of a clip mark (R91); an out-point of none is OPEN. -/
structure Clip where
  inPoint : Nat
  outPoint : Option Nat
  label : Nat
deriving DecidableEq, Repr

/-- A clip mark (R91). -/
inductive Mark where
  | empty
  | valid (c : Clip)
  | stale (c : Clip)
deriving DecidableEq, Repr

inductive PlayerState where
  | idle
  | cued
  | playing
  | paused
  | suspended
deriving DecidableEq, Repr

inductive EndAction where
  | hold
  | stop
  | loop
deriving DecidableEq, Repr

/-- What the player presents in the current output frame (R96). -/
structure Presented where
  number : Nat
  mark : Fin 16
deriving DecidableEq, Repr

structure Player where
  state : PlayerState
  mark : Fin 16
  position : Nat
  rateN : Nat
  rateD : Nat
  phase : Nat
  endAction : EndAction
  remembered : Option PlayerState
  frameState : PlayerState
  reposition : Bool
  presented : Option Presented
deriving DecidableEq, Repr

structure Replay where
  ring : Ring
  recorder : Recorder
  marks : Vector Mark 16
  player : Player
deriving DecidableEq, Repr

/-! ### Asset store (chapter 4) -/

inductive AssetState where
  | empty
  | loading
  | ready
  | doomed
deriving DecidableEq, Repr

inductive AssetKind where
  | image
  | strip
  | digitSet
  | sequence
deriving DecidableEq, Repr

/-- An asset record (section 4.2). `crc` is the register of the running check. -/
structure Asset where
  state : AssetState
  kind : AssetKind
  width : Nat
  height : Nat
  frames : Nat
  interval : Nat
  dataSize : Nat
  firstBlock : Nat
  blocks : Nat
  received : Nat
  crc : BitVec 32
  timer : Option Time
  pins : Nat
deriving DecidableEq, Repr

/-- The stacked DRAM's asset area as (address, byte) pairs, addresses strictly rising, no byte 0 listed: an address that is
not listed reads as 0 (notes/assumptions/3.md). -/
abbrev Dram := List Host.Cell

structure AssetStore where
  recs : Vector Asset 512
  dram : Dram
deriving DecidableEq, Repr

/-! ### Sponsor scheduler (chapter 8) -/

inductive ContractState where
  | vacant
  | active
  | paused
deriving DecidableEq, Repr

/-- An accrual record (R146). -/
structure Accrual where
  state : ContractState
  accrued : Nat
  remainder : Nat
  met : Bool
  period : Nat
  wall : Nat
  creative : Fin 4
deriving DecidableEq, Repr

/-- A lane record (R149); a current contract of none is FILL, a cursor of none is START. -/
structure SponsorLane where
  contract : Option (Fin 64)
  key : Nat
  creative : Option AssetId
  framesLeft : Nat
  cursor : Option Nat
  pinned : Option AssetId
deriving DecidableEq, Repr

/-- A settlement record (R164). -/
structure Settlement where
  contract : Fin 64
  met : Bool
  key : Nat
  period : Nat
  target : Nat
  accrued : Nat
  close : Nat
deriving DecidableEq, Repr

structure Sponsor where
  accruals : Vector Accrual 64
  lanes : Vector SponsorLane 8
  log : List Settlement
  closeNumber : BitVec 32
deriving DecidableEq, Repr

/-! ### Message unit (chapter 9) -/

inductive MessageClass where
  | emergency
  | lead
  | standard
deriving DecidableEq, Repr

inductive MessageMode where
  | crawl
  | hold
deriving DecidableEq, Repr

/-- Why an entry left the message queue (R178). -/
inductive DoneReason where
  | complete
  | expired
  | withdrawn
  | cleared
  | evicted
  | unattended
deriving DecidableEq, Repr

/-- An entry of the message queue (section 9.1). `pace` is the velocity of a CRAWL or the dwell of a HOLD. The leaving flag
is set when `leaving` holds the reason its removal gave. -/
structure Message where
  tag : Nat
  cls : MessageClass
  strip : AssetId
  lane : Nat
  mode : MessageMode
  pace : Nat
  repeatsLeft : Nat
  lifetime : Nat
  age : Nat
  passes : Nat
  leaving : Option DoneReason
deriving DecidableEq, Repr

/-- A lane record (section 9.3); a current entry of none is an idle lane. -/
structure MessageLane where
  current : Option Nat
  passWidth : Nat
  passHeight : Nat
  x : Int
  framesLeft : Nat
deriving DecidableEq, Repr

structure Messages where
  queue : List Message
  lanes : Vector MessageLane 4
  emergency : MessageLane
  takeover : Bool
deriving DecidableEq, Repr

/-! ### Cue unit (chapter 10) -/

/-- A candidate of a contact line (R185). -/
structure Candidate where
  level : Bool
  edge : Time
  expiry : Time
deriving DecidableEq, Repr

/-- A contact line: the level at its pin, the recognized level and the candidate (R185). -/
structure ContactLine where
  level : Bool
  recognized : Bool
  candidate : Option Candidate
deriving DecidableEq, Repr

/-- A cue record (chapter 10). -/
structure CueRecord where
  armed : Bool
  fires : Nat
  firedFrame : Option Time
deriving DecidableEq, Repr

/-- What a trigger carries (R190). CLOCK_EXPIRED carries the expiry instant t_x (R111) and, where a stop found the expiry, that
stop's effective time te (R120); an expiry that the advance finds has no effective time. A clock display notice (R125) is judged by
CLOCK_AT cues. -/
inductive TriggerEvent where
  | clockExpired (channel : Fin 4) (expiry : Time) (effective : Option Time)
  | clockDisplay (channel : Fin 4) (direction : Direction) (state : ClockState) (before after : Nat)
  | scoreChanged (field : Fin 16) (before after : Nat)
  | periodChanged (before after : Nat)
  | playerEnded
  | messageDone (tag : Nat) (reason : DoneReason)
  | contact (line : Fin 4) (rise : Bool)
  | feed (input : InputId) (state : Feed)
  | unattended
deriving DecidableEq, Repr

/-- A horn request: the interval it names (R188), and the effective time it carries when the stop of a clock channel made it
(R120). The horn line reads the interval alone. -/
structure HornRequest where
  start : Time
  stop : Time
  effective : Option Time
deriving DecidableEq, Repr

/-- A trigger with its arrival time (R191). -/
structure Trigger where
  arrival : Time
  event : TriggerEvent
deriving DecidableEq, Repr

structure CueUnit where
  lines : Vector ContactLine 4
  /-- none: the line is low; otherwise it sounds until this instant (R188) -/
  horn : Option Time
  records : Vector CueRecord 32
  pendingTriggers : List Trigger
deriving DecidableEq, Repr

/-! ### Compositor (chapter 3) -/

/-- A zone's source: its source kind with its source index (section 3.1). -/
inductive Source where
  | none
  | program
  | iso
  | replay
  | sponsor (lane : Fin 8)
  | message (lane : Fin 4)
  | panel (panel : Fin 8)
  | asset (id : AssetId)
  | slate
deriving DecidableEq, Repr

/-- A zone record (section 3.1). `scale` is its code. -/
structure Zone where
  enable : Bool
  colBase : BitVec 9
  colMask : BitVec 9
  rowBase : BitVec 8
  rowMask : BitVec 8
  source : Source
  offsetX : Nat
  offsetY : Nat
  scale : Nat
deriving DecidableEq, Repr

/-- A segment record (R62). -/
structure Segment where
  enable : Bool
  x0 : Nat
  y0 : Nat
  width : Nat
  height : Nat
deriving DecidableEq, Repr

/-- The tile map of the current output frame (R54, R56), held as what it is built from: `TileMap.layers` reads the top and
the second layer of a tile from it. `zones` are the zones that take part, those that are enabled and presentable, in number
order. -/
structure TileMap where
  wTiles : Nat
  hTiles : Nat
  zones : List (Fin 16 × Zone)
  takeover : Bool
  keepPanels : Bool
deriving DecidableEq, Repr

/-- A strip in the picture of a message lane (R179): the asset and the place of its top left. -/
structure Strip where
  id : AssetId
  x : Int
  y : Int
deriving DecidableEq, Repr

/-- The picture a message lane offers for the frame (R179): its size and the strip drawn, if the lane shows a message. -/
structure LanePicture where
  width : Nat
  height : Nat
  strip : Option Strip
deriving DecidableEq, Repr

/-- The canvas composed for the current output frame, held as the source pictures it was composed from, as they stood at the
frame start (R58, stage 7). `Scene.canvas` reads a pixel from it. -/
structure Scene where
  map : TileMap
  segments : Vector Segment 4
  frameNumber : Nat
  slateColour : Rgb
  slateAsset : Option AssetId
  op : OpState
  program : Option Picture
  isoFeed : Feed
  isoPicture : Option Picture
  replay : Option RingFrame
  sponsors : Vector (Option AssetId) 8
  messages : Vector LanePicture 4
  emergency : LanePicture
  panels : List Byte
  score : Vector Nat 16
  clocks : Vector FrameValue 4
  clockTable : List Byte
  assets : Vector Asset 512
  dram : Dram
  pins : List AssetId
deriving DecidableEq, Repr

/-- A zone's visible tile count with the zone's source in the frame counted (R57). -/
structure ZoneCount where
  source : Source
  tiles : Nat
deriving DecidableEq, Repr

structure Compositor where
  activeLayout : Fin 4
  pendingLayout : Option (Fin 4)
  frameNumber : BitVec 32
  /-- the counts of the current frame -/
  visible : Vector ZoneCount 16
  /-- the counts of the frame just ended -/
  ended : Vector ZoneCount 16
  /-- the asset ids on which the compositor holds a pin -/
  pins : List AssetId
  /-- the tile map and the composed canvas, none until the first output frame start -/
  scene : Option Scene
deriving DecidableEq, Repr

/-- The score record, by field code, with POSSESSION as its code (R130), and the frame copy of it (R137). -/
structure Score where
  fields : Vector Nat 16
  frameCopy : Vector Nat 16
deriving DecidableEq, Repr

/-! ### The whole part -/

/-- The state of the part. -/
structure State where
  /-- the 48-bit reference count (R1) -/
  count : Time
  /-- RESETN is held low (R19) -/
  inReset : Bool
  /-- the pins as sampled at the last release of device reset (R19) -/
  pins : Pins
  pgm : Receiver
  iso : Receiver
  timing : Timing
  control : Control
  /-- the active copy of every loadable table as bytes, by table id (section 2.5) -/
  active : Vector (List Byte) 15
  comp : Compositor
  assets : AssetStore
  replay : Replay
  clocks : Vector Clock 4
  score : Score
  sponsor : Sponsor
  msgs : Messages
  cues : CueUnit
  /-- the commands and events that wait, first in, first out -/
  pending : List Instr
deriving DecidableEq, Repr

/-- Why a step stops with a fault. -/
inductive Fault where
  /-- ASSET_DATA would store a byte at an address of the stacked DRAM that does not exist (R66: 32 GiB). Raised by
  `execAssetData` only. No state that the part reaches has such an asset record. Safe: the machine stops. -/
  | dramAddress
deriving DecidableEq, Repr

/-- Why a step is refused. -/
inductive Refusal where
  /-- The row has no meaning yet. Raised by `exec`'s own arms only; no arm answers it now. Safe: the machine stops. -/
  | notModelled (mnemonic : String)
deriving DecidableEq, Repr

/-! ### Device reset -/

/-- A link receiver after device reset (R3, R5, R6, R9): an input whose signal is present becomes ACQUIRING at once. -/
def Receiver.reset (signal : Bool) : Receiver :=
  { lock := if signal then .acquiring else .absent, signal := signal, runRate := none, goodRun := 0, badRun := 0,
    latest := none, history := [], measured := none, frozen := none, held := none, feed := .slate,
    holdTimer := none,    structureValid := true, packetCount := 0 }

/-- The nominal period of the default rate that RATESEL gives (R19). -/
def resetPeriod (rateSel : Bool) : Nat := if rateSel then 450450 else 540000

/-- The frame timing unit after device reset (R13, R18, R19). -/
def Timing.reset (rateSel : Bool) : Timing :=
  { op := .start, outputPeriod := resetPeriod rateSel, lastFrameStart := 0,
    schedule := [BitVec.ofNat 48 (resetPeriod rateSel)], realigning := false, relockCount := 0, relockWindow := none }

/-- The control channel after device reset (R26, R35, R36, R39, R40, R42, R43). -/
def Control.reset : Control :=
  { health := 0, loads := Vector.replicate 15 .idle, unattended := false, unattendedTimer := none, queue := [], lost := 0,
    statusCount := 0, readback := none, sent := none }

/-- The compositor after device reset (R65). -/
def Compositor.reset : Compositor :=
  { activeLayout := 0, pendingLayout := none, frameNumber := 0, visible := Vector.replicate 16 ⟨.none, 0⟩,
    ended := Vector.replicate 16 ⟨.none, 0⟩, pins := [], scene := none }

/-- An EMPTY asset record (R82). -/
def Asset.empty : Asset :=
  { state := .empty, kind := .image, width := 0, height := 0, frames := 0, interval := 0, dataSize := 0, firstBlock := 0,
    blocks := 0, received := 0, crc := 0, timer := none, pins := 0 }

/-- A ring of `slots` empty slots (R83). -/
def Ring.ofSlots (slots : Nat) : Ring :=
  { slots := List.replicate slots none, writePos := 0, present := 0, newest := none }

/-- The replay unit after device reset (R106). The position, which has no meaning in IDLE, is 0. -/
def Replay.reset : Replay :=
  { ring := Ring.ofSlots 2048,
    recorder := { state := .idle, source := .pgm, gap := 0, snapshot := none, lastNumber := 0, exhausted := false },
    marks := Vector.replicate 16 .empty,
    player := { state := .idle, mark := 0, position := 0, rateN := 1, rateD := 1, phase := 0, endAction := .hold,
                remembered := none, frameState := .idle, reposition := false, presented := none } }

/-- A clock channel after device reset (R129). -/
def Clock.reset : Clock :=
  { state := .stopped, value := 0, correction := 0, ref := 0, lastReport := none, stale := false, console := none,
    frame := ⟨0, .stopped, false⟩, frameTenths := 0 }

/-- A VACANT accrual record (R146, R166). -/
def Accrual.vacant : Accrual :=
  { state := .vacant, accrued := 0, remainder := 0, met := false, period := 0, wall := 0, creative := 3 }

/-- The sponsor scheduler after device reset (R166). -/
def Sponsor.reset : Sponsor :=
  { accruals := Vector.replicate 64 Accrual.vacant,
    lanes := Vector.replicate 8
      { contract := none, key := 0, creative := none, framesLeft := 0, cursor := none, pinned := none },
    log := [], closeNumber := 0 }

/-- An idle message lane (R184). -/
def MessageLane.idle : MessageLane := { current := none, passWidth := 0, passHeight := 0, x := 0, framesLeft := 0 }

/-- The message unit after device reset (R184). -/
def Messages.reset : Messages :=
  { queue := [], lanes := Vector.replicate 4 MessageLane.idle, emergency := MessageLane.idle, takeover := false }

/-- A contact line after device reset: its recognized level is its level at the release (R185). -/
def ContactLine.reset (level : Bool) : ContactLine := { level := level, recognized := level, candidate := none }

/-- The cue unit after device reset (R185, R188, R193). -/
def CueUnit.reset (contacts : BitVec 4) : CueUnit :=
  { lines := ⟨#[.reset (contacts.getLsbD 0), .reset (contacts.getLsbD 1), .reset (contacts.getLsbD 2),
      .reset (contacts.getLsbD 3)], rfl⟩,
    horn := none, records := Vector.replicate 32 { armed := false, fires := 0, firedFrame := none }, pendingTriggers := [] }

/-- The part at the instant device reset is released with the pins at these levels (R19), no command waiting. -/
def State.released (pins : Pins) : State :=
  { count := 0, inReset := false, pins := pins,
    pgm := .reset pins.pgmSignal, iso := .reset pins.isoSignal,
    timing := .reset pins.rateSel, control := .reset, active := resetTables pins.straps pins.rateSel,
    comp := .reset, assets := { recs := Vector.replicate 512 Asset.empty, dram := [] }, replay := .reset,
    clocks := Vector.replicate 4 Clock.reset,
    score := { fields := Vector.replicate 16 0, frameCopy := Vector.replicate 16 0 },
    sponsor := .reset, msgs := .reset, cues := .reset pins.contacts, pending := [] }

/-- The pins of `State.reset`: straps 0, RATESEL low, no signal, contact lines low (notes/assumptions/2.md). -/
def resetPins : Pins := { straps := 0, rateSel := false, pgmSignal := false, isoSignal := false, contacts := 0 }

/-- The machine right after device reset. -/
def State.reset : State := State.released resetPins

end Sys2Proof.Machine
end

