-- ==== Sys2Proof/Machine/Operands.lean ====
section
/-! DEFINITION. The loadable tables as their owners read them: the fields of each entry, taken from the bytes of the active
copy. Each view cites the section that gives the entry's layout. -/

namespace Sys2Proof.Machine

/-! ### Small collections -/

/-- `v` with `f` applied to element `i`. -/
def vmodify {α : Type} {n : Nat} (v : Vector α n) (i : Fin n) (f : α → α) : Vector α n := v.set i (f v[i])

/-- `v` with `f` applied to every element, given its index. -/
def vmapIdx {α β : Type} {n : Nat} (v : Vector α n) (f : Fin n → α → β) : Vector β n :=
  ⟨⟨(List.finRange n).map fun i => f i v[i]⟩, by simp⟩

/-- The vector whose element `i` is `f i`. -/
def vofFn {α : Type} {n : Nat} (f : Fin n → α) : Vector α n := ⟨⟨(List.finRange n).map f⟩, by simp⟩

/-- `n` as an index below `k`, if it is one. -/
def index? (k n : Nat) : Option (Fin k) := if h : n < k then some ⟨n, h⟩ else none

/-- An asset id field: 0 to 511, or NONE (section 7.3). -/
def assetId? (n : Nat) : Option AssetId := index? 512 n

/-- The bytes of entry `i` of table `id`. -/
def State.entry (s : State) (id : Fin 15) (i : Nat) : List Byte := entryOf s.active[id] (entrySize id.val) i

/-! ### DEVICE (section 1.7) -/

/-- The code of a rate in DEVICE entry 2; an unlisted code is not stored by a commit. -/
def rateOfCode : Nat → Rate
  | 0 => .hz50
  | 1 => .hz5994
  | _ => .hz60

structure DeviceCfg where
  wTiles : Nat
  hTiles : Nat
  rate : Rate
  holdMs : Nat
  relockLimit : Nat
  relockWindowS : Nat
  slateColour : Rgb
  slateAsset : Option AssetId
deriving DecidableEq, Repr

def deviceOf (bs : List Byte) : DeviceCfg :=
  { wTiles := beAt bs 0 4, hTiles := beAt bs 4 4, rate := rateOfCode (beAt bs 8 4), holdMs := beAt bs 12 4,
    relockLimit := beAt bs 16 4, relockWindowS := beAt bs 20 4,
    slateColour := ⟨bs.getD 25 0, bs.getD 26 0, bs.getD 27 0⟩, slateAsset := assetId? (beAt bs 28 4) }

def State.device (s : State) : DeviceCfg := deviceOf s.active[tblDevice]

/-! ### UNIT (section 2.9) -/

/-- The control source (R22). -/
inductive ControlSource where
  | pgmOnly
  | isoOnly
  | pgmPreferred
deriving DecidableEq, Repr

structure UnitCfg where
  address : BitVec 12
  mask : BitVec 12
  groups : BitVec 16
  source : ControlSource
  timeoutS : Nat
  layout : Option (Fin 4)
  statusInterval : Nat
deriving DecidableEq, Repr

def unitOf (bs : List Byte) : UnitCfg :=
  { address := BitVec.ofNat 12 (beAt bs 0 4), mask := BitVec.ofNat 12 (beAt bs 4 4), groups := BitVec.ofNat 16 (beAt bs 8 4),
    source := match beAt bs 12 4 with | 0 => .pgmOnly | 1 => .isoOnly | _ => .pgmPreferred,
    timeoutS := beAt bs 16 4, layout := index? 4 (beAt bs 20 4), statusInterval := beAt bs 24 4 }

def State.unit (s : State) : UnitCfg := unitOf s.active[tblUnit]

/-! ### SEGMENTS (R62) and LAYOUT0 to LAYOUT3 (section 3.1) -/

def segmentOf (e : List Byte) : Segment :=
  { enable := byteAt e 0 = 1, x0 := beAt e 1 2, y0 := beAt e 3 2, width := beAt e 5 2, height := beAt e 7 2 }

def segmentsOf (bs : List Byte) : Vector Segment 4 := vofFn fun i => segmentOf (entryOf bs 12 i)

def State.segments (s : State) : Vector Segment 4 := segmentsOf s.active[tblSegments]

/-- A source from its kind and index codes (section 3.1). -/
def sourceOf (kind index : Nat) : Source :=
  match kind with
  | 1 => .program
  | 2 => .iso
  | 3 => .replay
  | 4 => match index? 8 index with | some i => .sponsor i | none => .none
  | 5 => match index? 4 index with | some i => .message i | none => .none
  | 6 => match index? 8 index with | some i => .panel i | none => .none
  | 7 => match index? 512 index with | some i => .asset i | none => .none
  | 8 => .slate
  | _ => .none

def zoneOf (e : List Byte) : Zone :=
  { enable := byteAt e 0 = 1, colBase := BitVec.ofNat 9 (beAt e 1 2), colMask := BitVec.ofNat 9 (beAt e 3 2),
    rowBase := BitVec.ofNat 8 (byteAt e 5), rowMask := BitVec.ofNat 8 (byteAt e 6),
    source := sourceOf (byteAt e 7) (beAt e 8 2), offsetX := beAt e 10 2, offsetY := beAt e 12 2, scale := byteAt e 14 }

def zonesOf (bs : List Byte) : Vector Zone 16 := vofFn fun i => zoneOf (entryOf bs 20 i)

/-- The zones of layout `n`. -/
def State.layout (s : State) (n : Fin 4) : Vector Zone 16 := zonesOf s.active[tblLayout n]

/-- The zones of the active layout. -/
def State.zones (s : State) : Vector Zone 16 := s.layout s.comp.activeLayout

/-! ### MEMORY (R67) -/

/-- The ring slot count R. -/
def ringSlotsOf (bs : List Byte) : Nat := beAt bs 0 2

def State.ringSlots (s : State) : Nat := ringSlotsOf s.active[tblMemory]

/-! ### CLOCKS (R107) -/

structure ClockCfg where
  direction : Direction
  console : Bool
  hornOn : Bool
  period : Nat
  latency : Nat
  snap : Nat
  deadband : Nat
  silenceMs : Nat
  tenths : Nat
  hornMs : Nat
deriving DecidableEq, Repr

def clockCfgOf (e : List Byte) : ClockCfg :=
  { direction := if byteAt e 0 = 1 then .up else .down, console := byteAt e 1 = 1, hornOn := byteAt e 2 = 1,
    period := beAt e 4 5, latency := beAt e 9 4, snap := beAt e 13 4, deadband := beAt e 17 4, silenceMs := beAt e 21 2,
    tenths := beAt e 23 2, hornMs := beAt e 25 2 }

/-- Channel `c`'s configuration in a CLOCKS table. -/
def clockCfgAt (bs : List Byte) (c : Fin 4) : ClockCfg := clockCfgOf (entryOf bs 32 c)

def State.clockCfg (s : State) (c : Fin 4) : ClockCfg := clockCfgAt s.active[tblClocks] c

/-! ### PANELS (section 7.3) -/

structure FieldCfg where
  kind : Nat
  index : Nat
  x : Nat
  y : Nat
  digitSet : Option AssetId
  digits : Nat
  zeroLead : Bool
  format : Nat
  dashes : Bool
  home : Option AssetId
  away : Option AssetId
deriving DecidableEq, Repr

structure PanelCfg where
  width : Nat
  height : Nat
  background : Option AssetId
  fields : List FieldCfg
deriving DecidableEq, Repr

def fieldOf (f : List Byte) : FieldCfg :=
  { kind := byteAt f 0, index := byteAt f 1, x := beAt f 2 2, y := beAt f 4 2, digitSet := assetId? (beAt f 6 2),
    digits := byteAt f 8, zeroLead := byteAt f 9 = 1, format := byteAt f 10, dashes := byteAt f 11 = 1,
    home := assetId? (beAt f 12 2), away := assetId? (beAt f 14 2) }

def panelOf (e : List Byte) : PanelCfg :=
  { width := beAt e 0 2, height := beAt e 2 2, background := assetId? (beAt e 4 2),
    fields := (List.range 12).map fun i => fieldOf ((e.drop (16 + 16 * i)).take 16) }

/-- Panel `p` in a PANELS table. -/
def panelAt (bs : List Byte) (p : Fin 8) : PanelCfg := panelOf (entryOf bs 208 p)

/-- A panel is defined when its width and its height are both at least 1 (R52). -/
def PanelCfg.defined (p : PanelCfg) : Bool := 1 ≤ p.width ∧ 1 ≤ p.height

/-! ### CONTRACTS (R145) and LANES (R149) -/

structure ContractCfg where
  key : Nat
  target : Nat
  slack : Nat
  wall : Bool
  channel : Nat
  wallPeriodS : Nat
  category : Nat
  capped : Bool
  creatives : Vector (Option AssetId) 4
  dwell : Nat
deriving DecidableEq, Repr

def contractOf (e : List Byte) : ContractCfg :=
  { key := beAt e 0 4, target := beAt e 4 6, slack := beAt e 10 6, wall := byteAt e 16 = 1, channel := byteAt e 17,
    wallPeriodS := beAt e 18 2, category := byteAt e 20, capped := byteAt e 21 = 1,
    creatives := vofFn fun i => assetId? (beAt e (22 + 2 * i.val) 2), dwell := beAt e 30 2 }

/-- Contract `i` in a CONTRACTS table. -/
def contractAt (bs : List Byte) (i : Fin 64) : ContractCfg := contractOf (entryOf bs 32 i)

def State.contract (s : State) (i : Fin 64) : ContractCfg := contractAt s.active[tblContracts] i

structure LaneCfg where
  list : List (Fin 64)
  dwell : Nat
  fill : Option AssetId
deriving DecidableEq, Repr

def laneCfgOf (e : List Byte) : LaneCfg :=
  { list := ((e.drop 1).take (byteAt e 0)).filterMap fun b => index? 64 b.toNat,
    dwell := beAt e 33 2, fill := assetId? (beAt e 35 2) }

/-- Lane `l` in a LANES table. -/
def laneCfgAt (bs : List Byte) (l : Fin 8) : LaneCfg := laneCfgOf (entryOf bs 40 l)

def State.laneCfg (s : State) (l : Fin 8) : LaneCfg := laneCfgAt s.active[tblLanes] l

/-- A dwell of 0 is taken as 1 (R149). -/
def LaneCfg.frames (c : LaneCfg) : Nat := if c.dwell = 0 then 1 else c.dwell

/-! ### TEMPLATES (section 9.5) -/

/-- A class by its code (R168). -/
def class? : Nat → Option MessageClass
  | 0 => some .emergency
  | 1 => some .lead
  | 2 => some .standard
  | _ => none

/-- The fields of a POST, as its payload or a template gives them (R168, section 9.5). -/
structure PostFields where
  tag : Nat
  cls : Nat
  strip : Nat
  lane : Nat
  mode : Nat
  pace : Nat
  repeats : Nat
  lifetime : Nat
deriving DecidableEq, Repr

structure TemplateCfg where
  defined : Bool
  fields : PostFields
deriving DecidableEq, Repr

def templateOf (e : List Byte) : TemplateCfg :=
  { defined := byteAt e 0 = 1,
    fields := { tag := beAt e 1 2, cls := byteAt e 3, strip := beAt e 4 2, lane := byteAt e 6, mode := byteAt e 7,
                pace := beAt e 8 2, repeats := byteAt e 10, lifetime := 0 } }

/-- Template `t` (0 to 7) is entry t + 1 of the TEMPLATES table. -/
def State.template (s : State) (t : Nat) : TemplateCfg := templateOf (s.entry tblTemplates (t + 1))

/-- The keep-panels flag (section 9.5). -/
def State.keepPanels (s : State) : Bool := byteAt s.active[tblTemplates] 0 = 1

/-! ### CUES (section 10.3) and CONTACTS (R187) -/

structure CueCfg where
  armAtCommit : Bool
  every : Bool
  trigger : Nat
  index : Nat
  value : Nat
  action : Nat
  actionIndex : Nat
  actionValue : Nat
  n : Nat
  d : Nat
  endAction : Nat
deriving DecidableEq, Repr

def cueOf (e : List Byte) : CueCfg :=
  { armAtCommit := byteAt e 0 = 1, every := byteAt e 1 = 1, trigger := byteAt e 2, index := byteAt e 3, value := beAt e 4 2,
    action := byteAt e 6, actionIndex := byteAt e 7, actionValue := beAt e 8 2, n := byteAt e 10, d := byteAt e 11,
    endAction := byteAt e 12 }

def State.cueCfg (s : State) (i : Fin 32) : CueCfg := cueOf (s.entry tblCues i)

structure ContactCfg where
  filterMs : Nat
  /-- the clock channel the line is bound to, if it is bound -/
  channel : Option (Fin 4)
  activeLow : Bool
deriving DecidableEq, Repr

def contactOf (e : List Byte) : ContactCfg :=
  { filterMs := byteAt e 0, channel := if byteAt e 1 = 1 then index? 4 (byteAt e 2) else none,
    activeLow := byteAt e 3 = 1 }

def State.contactCfg (s : State) (l : Fin 4) : ContactCfg := contactOf (s.entry tblContacts l)

end Sys2Proof.Machine
end

