-- ==== Sys2Proof/Machine/Ops.lean ====
section
/-! DEFINITION. The operations the blocks share: arithmetic of timestamps, the bytes of the stacked DRAM, the report queue,
triggers, asset pins and horn requests, and how a command is answered. -/

namespace Sys2Proof.Machine

/-! ### Timestamps (R1) -/

/-- The ticks from `a` to `b`, modulo 2^48 (R1). -/
def elapsed (a b : Time) : Nat := (b - a).toNat

/-- The instant `n` ticks after `a`. -/
def after (a : Time) (n : Nat) : Time := a + BitVec.ofNat 48 n

/-- The instant `a` is at or before the instant `b`. Two timestamps are compared by their difference modulo 2^48, taken as
past when it is below half a wrap (notes/assumptions/4.md). -/
def reached (a b : Time) : Bool := elapsed a b < 2 ^ 47

/-- The later of two instants. -/
def later (a b : Time) : Time := if reached a b then b else a

/-- A timer whose expiry instant has come at `t`; a stopped timer has not. -/
def due (timer : Option Time) (t : Time) : Bool := timer.any fun x => reached x t

/-- The nominal period of a rate in ticks (R2). -/
def nominal : Rate → Nat
  | .hz50 => 540000
  | .hz5994 => 450450
  | .hz60 => 450000

/-! ### The stacked DRAM (R66, R70) -/

/-- One byte of the DRAM. -/
def Dram.read (m : Dram) (a : Nat) : Byte := ((m.find? fun c => c.1 = a).map (·.2)).getD 0

/-- The cells that hold `bs` from address `a` on, in canonical form. -/
def dramCells : Nat → List Byte → Dram
  | _, [] => []
  | a, b :: bs => if b = 0 then dramCells (a + 1) bs else (a, b) :: dramCells (a + 1) bs

/-- The DRAM with `bs` stored from address `a` on. -/
def Dram.write (m : Dram) (a : Nat) (bs : List Byte) : Dram :=
  m.filter (fun c => decide (c.1 < a)) ++ dramCells a bs ++ m.filter (fun c => decide (a + bs.length ≤ c.1))

/-- The canonical form: addresses strictly rising, no byte 0 listed, every address inside the DRAM. -/
def Dram.wf (m : Dram) : Bool :=
  m.Pairwise (fun a b => a.1 < b.1) ∧ ∀ c ∈ m, c.2 ≠ 0 ∧ c.1 < Config.dramBytes

/-! ### Codes of reports (R38) -/

def Feed.code : Feed → Nat
  | .live => 0 | .hold => 1 | .slate => 2

def inputCode : InputId → Nat
  | .pgm => 0 | .iso => 1

def OpState.code : OpState → Nat
  | .start => 0 | .seeking => 1 | .live => 2 | .hold => 3 | .fallback => 4 | .lockout => 5

def ReportKind.rank : ReportKind → Nat
  | .feed => 1 | .refusal => 2 | .clock => 3 | .event => 4 | .readback => 5 | .status => 6

def reasonCode : Reason → Nat
  | .notLocked => 1 | .unknownKind => 2 | .badLength => 3 | .guarded => 4 | .isolated => 5 | .badTable => 6 | .range => 7
  | .order => 8 | .busy => 9 | .clamped => 10 | .inUse => 11 | .noSpace => 12 | .notReady => 13 | .exhausted => 14
  | .outOfRing => 15 | .notValid => 16 | .noClip => 17 | .notPaused => 18 | .limit => 19 | .mode => 20 | .badField => 21
  | .vacant => 22 | .full => 23 | .duplicate => 24 | .notFound => 25 | .notDefined => 26

/-- The topics of EVENT reports (R38). -/
inductive EventTopic where
  | commitDone | commitRejected | loadAbandoned | assetReady | assetFailed | markStale | recorderHeld | recorderGap
  | playerEnded | messageDone | settlementAdded
deriving DecidableEq, Repr

def EventTopic.code : EventTopic → Nat
  | .commitDone => 0 | .commitRejected => 1 | .loadAbandoned => 2 | .assetReady => 3 | .assetFailed => 4 | .markStale => 5
  | .recorderHeld => 6 | .recorderGap => 7 | .playerEnded => 8 | .messageDone => 9 | .settlementAdded => 10

/-! ### The readback view of the tables (R37) -/

/-- The 24 bytes of a settlement record (R164). -/
def settlementBytes (r : Settlement) : List Byte :=
  be 1 r.contract.val ++ be 1 (if r.met then 1 else 0) ++ be 4 r.key ++ be 2 r.period ++ be 6 r.target ++ be 6 r.accrued ++
    be 4 r.close

/-- The SETTLEMENT table as a readback shows it: the records held, oldest first, then zero bytes (R37, R164). -/
def settlementTable (log : List Settlement) : List Byte :=
  let held := (log.map settlementBytes).flatten
  held ++ zeros (3072 - held.length)

/-- An entry of CUES as a readback shows it: bytes 13 to 15 carry the cue record (section 10.3). -/
def cueEntryBytes (e : List Byte) (r : CueRecord) : List Byte :=
  e.take 13 ++ be 1 (if r.armed then 1 else 0) ++ be 2 r.fires

/-- The bytes of a table as a readback reads them now (R37). -/
def State.readbackBytes (s : State) (table : Nat) : List Byte :=
  match index? 15 table with
  | none => settlementTable s.sponsor.log
  | some id =>
    if id = tblCues then
      ((List.finRange 32).map fun i => cueEntryBytes (s.entry tblCues i.val) s.cues.records[i]).flatten
    else s.active[id]

/-! ### The report queue (R39, R40) -/

/-- Two reports have the same kind and subject. -/
def Report.same (a b : Report) : Bool := a.kind = b.kind ∧ a.topic = b.topic ∧ a.item = b.item

/-- The largest rank number present in a queue, 0 if it is empty (R40). -/
def largestRank (q : List Report) : Nat := q.foldl (fun m r => max m r.kind.rank) 0

/-- The queue without its newest report of rank `k` (R40). -/
def dropNewest (k : Nat) (q : List Report) : List Report := (q.reverse.eraseP fun r => r.kind.rank = k).reverse

/-- The newest report of rank `k` (R40). -/
def newestOf (k : Nat) (q : List Report) : Option Report := q.reverse.find? fun r => r.kind.rank = k

/-- What raising a report did to the queue: the queue after, whether a report was lost, the report removed to make room,
and whether the report raised is now pending. -/
structure Enqueued where
  queue : List Report
  lost : Bool
  removed : Option Report
  taken : Bool
deriving DecidableEq, Repr

/-- The queue after a report is raised: it coalesces (R39), takes the newest place, or meets a full queue (R40). -/
def enqueue (q : List Report) (r : Report) : Enqueued :=
  if q.any (·.same r) then
    { queue := q.map fun x => if x.same r then { x with payload := r.payload, repeats := min 255 (x.repeats + 1) } else x,
      lost := false, removed := none, taken := true }
  else if q.length < Config.reportQueueSize then
    { queue := q ++ [{ r with repeats := 0 }], lost := false, removed := none, taken := true }
  else if r.kind.rank < largestRank q then
    { queue := dropNewest (largestRank q) q ++ [{ r with repeats := 0 }], lost := true, removed := newestOf (largestRank q) q,
      taken := true }
  else { queue := q, lost := true, removed := none, taken := false }

/-- The lost report count after a loss, saturating at 255 (R40). -/
def countLost (lost : Bool) (n : Nat) : Nat := if lost then min 255 (n + 1) else n

/-- The READBACK report of the cursor's chunk, read from the tables now (R37). -/
def State.chunkReport (s : State) (rb : Readback) : Report :=
  { kind := .readback, topic := rb.table, item := rb.chunk, repeats := 0,
    payload := ((s.readbackBytes rb.table).drop rb.next).take (min Config.chunkSize rb.left) }

/-- Queue the cursor's chunk. A chunk that is discarded as it is queued ends the readback (R37). -/
def queueChunk (rb : Readback) (s : State) : State :=
  let e := enqueue s.control.queue (s.chunkReport rb)
  { s with control.queue := e.queue, control.lost := countLost e.lost s.control.lost,
           control.readback := if e.taken then some rb else none }

/-- The cursor after its chunk has left the queue (R37). -/
def Readback.advance (rb : Readback) : Readback :=
  let size := min Config.chunkSize rb.left
  { rb with next := rb.next + size, left := rb.left - size, chunk := rb.chunk + 1 }

/-- The chunk of the running readback has left the queue: the next is queued, or the readback ends (R37). -/
def chunkLeft (s : State) : State :=
  match s.control.readback with
  | none => s
  | some rb =>
    if rb.advance.left = 0 then { s with control.readback := none } else queueChunk rb.advance s

/-- A READBACK report. -/
def Report.isChunk (r : Report) : Bool := r.kind = .readback

/-- Raise a report (R39, R40). A readback chunk that it removes counts as one that left the queue (R37). DESIGN CHOICE: the report
takes the chunk's room before the next chunk is raised, so that chunk meets a full queue (notes/assumptions/38.md). -/
def raise (kind : ReportKind) (topic item : Nat) (payload : List Byte) (s : State) : State :=
  let e := enqueue s.control.queue ⟨kind, topic, item, 0, payload⟩
  let s' := { s with control.queue := e.queue, control.lost := countLost e.lost s.control.lost }
  if e.removed.any Report.isChunk then chunkLeft s' else s'

/-- Raise an EVENT report (R38). -/
def raiseEvent (topic : EventTopic) (item : Nat) (payload : List Byte) (s : State) : State :=
  raise .event topic.code item payload s

/-- Raise a STATUS report, queued without payload (R39, R42). -/
def raiseStatus (s : State) : State := raise .status 0 0 [] s

/-- Raise a CLOCK report for a channel: 17 bytes (R113). -/
def raiseClock (c : Fin 4) (kind : Nat) (instant : Time) (afterValue beforeValue : Nat) (s : State) : State :=
  raise .clock 0 c.val (be 1 kind ++ be 6 instant.toNat ++ be 5 afterValue ++ be 5 beforeValue) s

/-! ### How a command is answered (R28, R29) -/

/-- Where a request comes from: a packet, or the action of a cue (R29). -/
inductive Origin where
  | packet
  | cue (i : Fin 32)
deriving DecidableEq, Repr

/-- An owner's answer to a command: the state after, and the reason of the refusal to report, if there is one. -/
structure Reply where
  state : State
  reason : Option Reason

/-- The command is taken. -/
def accept (s : State) : Reply := ⟨s, none⟩

/-- The command is refused and changes nothing. -/
def refuse (s : State) (r : Reason) : Reply := ⟨s, some r⟩

/-- Queue the REFUSAL report of a refused command or action of KIND `kind` (R29). -/
def raiseRefusal (o : Origin) (kind : Nat) (r : Reason) (s : State) : State :=
  match o with
  | .packet => raise .refusal 0 kind (be 1 (reasonCode r) ++ be 1 kind) s
  | .cue i => raise .refusal 1 i.val (be 1 (reasonCode r) ++ be 1 kind) s

/-- The state after an owner's answer (R29). -/
def Reply.done (r : Reply) (o : Origin) (kind : Nat) : State :=
  match r.reason with
  | none => r.state
  | some why => raiseRefusal o kind why r.state

/-! ### Triggers, horn requests and pins -/

/-- Send a trigger to the cue unit: it joins the pending triggers in the order raised (R191). -/
def raiseTrigger (arrival : Time) (e : TriggerEvent) (s : State) : State :=
  { s with cues.pendingTriggers := s.cues.pendingTriggers ++ [⟨arrival, e⟩] }

/-- A horn request handed to the horn line at `h` (R188). -/
def hornRequest (h : Time) (q : HornRequest) (s : State) : State :=
  if reached q.stop h then s
  else { s with cues.horn := some (match s.cues.horn with | none => q.stop | some e => later e q.stop) }

/-- The state with asset record `id` replaced. -/
def State.setAsset (s : State) (id : AssetId) (a : Asset) : State := { s with assets.recs := s.assets.recs.set id a }

/-- A pin request that the store grants (R77): the pin count rises by one. The holder makes it only when the asset is READY. -/
def takePin (id : AssetId) (s : State) : State :=
  let a := s.assets.recs[id]
  if a.state = .ready then s.setAsset id { a with pins := a.pins + 1 } else s

/-- A pin release (R77). The last release of a DOOMED asset frees it (R79). -/
def releasePin (id : AssetId) (s : State) : State :=
  let a := s.assets.recs[id]
  if a.state = .doomed ∧ a.pins ≤ 1 then s.setAsset id Asset.empty else s.setAsset id { a with pins := a.pins - 1 }

/-! ### The receivers by input -/

/-- The receiver of an input. -/
def State.receiver (s : State) : InputId → Receiver
  | .pgm => s.pgm
  | .iso => s.iso

/-- The state with the receiver of an input replaced. -/
def State.setReceiver (s : State) (i : InputId) (r : Receiver) : State :=
  match i with
  | .pgm => { s with pgm := r }
  | .iso => { s with iso := r }

/-- The rate an input is LOCKED at, if it is LOCKED. -/
def Receiver.lockedRate (r : Receiver) : Option Rate :=
  match r.lock with
  | .locked rate => some rate
  | _ => none

/-- The input is LOCKED. -/
def Receiver.isLocked (r : Receiver) : Bool := r.lockedRate.isSome

end Sys2Proof.Machine
end

