-- ==== Sys2Proof/Machine/Flags.lean ====
section
/-! DEFINITION. The flags and states the part derives and reports: the health state (R27), the STATUS summary (R42) and the
packet a report is sent as (R38). -/

namespace Sys2Proof.Machine

/-- The health state (R27). -/
inductive HealthState where
  | normal
  | guarded
  | isolated
deriving DecidableEq, Repr

/-- The health state that a health counter gives (R27). -/
def healthOf (counter : Nat) : HealthState :=
  if counter < Config.guardedFrom then .normal else if counter < Config.isolatedFrom then .guarded else .isolated

def HealthState.code : HealthState → Nat
  | .normal => 0 | .guarded => 1 | .isolated => 2

/-- The health state of the part. -/
def State.health (s : State) : HealthState := healthOf s.control.health

def RecorderState.code : RecorderState → Nat
  | .idle => 0 | .recording => 1 | .wait => 2 | .held => 3

def PlayerState.code : PlayerState → Nat
  | .idle => 0 | .cued => 1 | .playing => 2 | .paused => 3 | .suspended => 4

/-- A flag as a byte: 0 clear, 1 set (R38). -/
def flagCode (b : Bool) : Nat := if b then 1 else 0

/-- The 16 bytes of a STATUS report built now (R42). -/
def State.statusPayload (s : State) : List Byte :=
  be 1 s.timing.op.code ++ be 1 s.pgm.feed.code ++ be 1 s.iso.feed.code ++ be 2 s.control.health ++ be 1 s.health.code ++
    be 1 (flagCode s.control.unattended) ++ be 1 (flagCode s.msgs.takeover) ++ be 1 s.replay.recorder.state.code ++
    be 1 s.replay.player.state.code ++ be 4 (s.replay.ring.newest.getD 0) ++ be 1 s.comp.activeLayout.val ++
    be 1 s.control.lost

/-- The packet a report is sent as, on the return channel of PGM and of ISO (R38). DESIGN CHOICE: the four bits of UNIT above the
unit address are sent as 0 (notes/assumptions/39.md). -/
def reportPacket (unit : BitVec 12) (r : Report) : List Byte :=
  let body := be 2 unit.toNat ++ be 1 r.kind.rank ++ be 1 r.topic ++ be 2 r.item ++ be 1 r.repeats ++
    be 1 r.payload.length ++ r.payload
  [0xB5, 0x4F] ++ body ++ be 2 (crc16 body).toNat

end Sys2Proof.Machine
end

