-- ==== Sys2Proof/Machine/Replay.lean ====
section
/-! DEFINITION. The replay unit (chapter 5): the ring, the recorder, the clip marks and the player. -/

namespace Sys2Proof.Machine

/-! ### The ring (section 5.1) -/

/-- The oldest present frame (R83). -/
def Ring.oldest (r : Ring) : Option Nat :=
  if r.present = 0 then none else r.newest.map fun n => n + 1 - r.present

/-- Frame `k` is present (R83). -/
def Ring.has (r : Ring) (k : Nat) : Bool :=
  match r.oldest, r.newest with
  | some a, some b => a ≤ k ∧ k ≤ b
  | _, _ => false

/-- The stored frame with record number `k`. -/
def Ring.frame (r : Ring) (k : Nat) : Option RingFrame := (r.slots.filterMap id).find? fun f => f.number = k

/-- A pixel of an input picture. -/
def Picture.pixel (p : Picture) (x y : Nat) : Rgb := p.pixels.getD (y * p.width + x) ⟨0, 0, 0⟩

/-- One channel of the average of pixels: half their number (rounded down) is added to the sum (R84). -/
def averageOf (vs : List Nat) : Byte := BitVec.ofNat 8 ((vs.foldl (· + ·) 0 + vs.length / 2) / vs.length)

/-- The average of the pixels of a 2 × 2 block that lie inside the picture (R84). -/
def halfPixel (p : Picture) (x y : Nat) : Rgb :=
  let inside := [(2 * x, 2 * y), (2 * x + 1, 2 * y), (2 * x, 2 * y + 1), (2 * x + 1, 2 * y + 1)].filter fun q =>
    decide (q.1 < p.width ∧ q.2 < p.height)
  let px := inside.map fun q => Picture.pixel p q.1 q.2
  ⟨averageOf (px.map (·.r.toNat)), averageOf (px.map (·.g.toNat)), averageOf (px.map (·.b.toNat))⟩

/-- A picture at half size (R84). -/
def halfPicture (p : Picture) : Picture :=
  let w := (p.width + 1) / 2
  let h := (p.height + 1) / 2
  { width := w, height := h,
    pixels := (List.range h).flatMap fun y => (List.range w).map fun x => halfPixel p x y }

/-- The picture as a slot stores it, and the reduced flag (R84). -/
def storedPicture (p : Picture) : Picture × Bool :=
  if p.width * p.height ≤ Config.slotPixels then (p, false) else (halfPicture p, true)

/-- The snapshot of the four clock channels as the clock unit holds them now (R84). -/
def State.clockSnapshot (s : State) : Vector ClockSnap 4 :=
  vofFn fun c => ⟨s.clocks[c].value, s.clocks[c].state, (s.clockCfg c).direction, s.clocks[c].stale⟩

/-! ### Clip marks (section 5.3) -/

/-- The clip of a mark that has one. -/
def Mark.clip : Mark → Option Clip
  | .empty => none
  | .valid c => some c
  | .stale c => some c

/-- The clip of a VALID mark. -/
def Mark.validClip : Mark → Option Clip
  | .valid c => some c
  | _ => none

/-- A mark is in use when the player is not IDLE and names it (R91). -/
def Replay.inUse (r : Replay) (m : Fin 16) : Bool := r.player.state ≠ .idle ∧ r.player.mark = m

/-- The end frame of the player's clip: the out-point, or for OPEN the newest record number (R102, R104). -/
def Replay.endFrame (r : Replay) : Nat :=
  match (r.marks[r.player.mark].clip).bind (·.outPoint) with
  | some out => out
  | none => r.ring.newest.getD 0

/-- Frame `k` lies in the player's protected span (R104). -/
def Replay.guards (r : Replay) (k : Nat) : Bool :=
  r.player.state ≠ .idle ∧ r.player.position ≤ k ∧ k ≤ r.endFrame

/-- MARK_STALE for mark `m` (R95). -/
def markStaleEvent (m : Fin 16) (c : Clip) (s : State) : State :=
  raiseEvent .markStale m.val (be 1 m.val ++ be 2 c.label ++ be 4 c.inPoint) s

/-- Mark `m` after frame `k` has left the ring: a VALID mark with that in-point becomes STALE (R95). -/
def staleMark (k : Nat) (s : State) (m : Fin 16) : State :=
  match s.replay.marks[m] with
  | .valid c =>
    if c.inPoint = k then markStaleEvent m c { s with replay.marks := s.replay.marks.set m (.stale c) } else s
  | _ => s

/-- Every mark after frame `k` has left the ring (R95). DESIGN CHOICE: the MARK_STALE events of several marks are queued in
ascending mark number; the spec gives no order (notes/assumptions/30.md). -/
def staleMarks (k : Nat) (s : State) : State := (List.finRange 16).foldl (staleMark k) s

/-- The state with mark `m` replaced. -/
def State.setMark (s : State) (m : Fin 16) (v : Mark) : State := { s with replay.marks := s.replay.marks.set m v }

/-- The record number a point names: the number given, or for NOW the newest (R91); none where NOW meets an empty ring. -/
def pointNumber (s : State) (kind number : Nat) : Option Nat :=
  if kind = 0 then some number else s.replay.ring.newest

/-- The record number a point names, if that frame is present (R92, R93). -/
def presentPoint (s : State) (kind number : Nat) : Option Nat := (pointNumber s kind number).filter s.replay.ring.has

/-- MARK_IN (R92). DESIGN CHOICE: RANGE, BUSY and OUT_OF_RING are tested in this order (notes/assumptions/35.md). -/
def markInOp (mark kind number label : Nat) (s : State) : Reply :=
  match index? 16 mark with
  | none => refuse s .range
  | some m =>
    if 1 < kind then refuse s .range
    else if s.replay.inUse m then refuse s .busy
    else match presentPoint s kind number with
      | none => refuse s .outOfRing
      | some k => accept (s.setMark m (.valid ⟨k, none, label⟩))

/-- MARK_OUT (R93). -/
def markOutOp (mark kind number : Nat) (s : State) : Reply :=
  match index? 16 mark with
  | none => refuse s .range
  | some m =>
    if 2 < kind then refuse s .range
    else if s.replay.inUse m then refuse s .busy
    else match s.replay.marks[m].validClip with
      | none => refuse s .notValid
      | some c =>
        if kind = 2 then accept (s.setMark m (.valid { c with outPoint := none }))
        else match presentPoint s kind number with
          | none => refuse s .outOfRing
          | some k => if k < c.inPoint then refuse s .order else accept (s.setMark m (.valid { c with outPoint := some k }))

/-- MARK_CLEAR (R94). -/
def markClearOp (mark : Nat) (s : State) : Reply :=
  match index? 16 mark with
  | none => refuse s .range
  | some m => if s.replay.inUse m then refuse s .busy else accept (s.setMark m .empty)

/-! ### The recorder (section 5.2) -/

/-- RECORD_START (R85). DESIGN CHOICE: RANGE, EXHAUSTED and NO_SPACE are tested in this order (notes/assumptions/35.md). -/
def recordStartOp (source : Nat) (s : State) : Reply :=
  if 1 < source then refuse s .range
  else if s.replay.recorder.exhausted then refuse s .exhausted
  else if s.ringSlots = 0 then refuse s .noSpace
  else
    let i : InputId := if source = 0 then .pgm else .iso
    let live := (s.receiver i).feed = .live
    let rec0 := s.replay.recorder
    let state : RecorderState :=
      match rec0.state with
      | .idle => if live then .recording else .wait
      | .recording => if live then .recording else .wait
      | .wait => if live then .recording else .wait
      | .held => if live then .held else .wait
    accept { s with replay.recorder :=
      { rec0 with source := i, state := state, gap := if rec0.state = .idle then 0 else rec0.gap } }

/-- RECORD_STOP, and the stop of the recorder by a control reset (R86). -/
def recorderStop (s : State) : State :=
  if s.replay.recorder.state = .idle then s
  else { s with replay.recorder.state := .idle, replay.recorder.gap := 0, replay.recorder.snapshot := none }

/-- The recorder after input `i`'s feed has changed to `f` (R87). -/
def recorderFeed (i : InputId) (f : Feed) (r : Recorder) : Recorder :=
  if r.source ≠ i then r
  else if f = .live then
    match r.state with
    | .wait => { r with state := .recording }
    | _ => r
  else
    match r.state with
    | .recording => { r with state := .wait }
    | .held => { r with state := .wait }
    | _ => r

/-- A source frame is missed: one is added to the gap counter (R88). -/
def missFrame (s : State) : State := { s with replay.recorder.gap := min Config.maxGap (s.replay.recorder.gap + 1) }

/-- The recorder may write a good frame: a slot is empty, or the oldest present frame is not protected (R88). -/
def Replay.mayWrite (r : Replay) : Bool :=
  r.ring.slots.length ≠ 0 ∧ (r.ring.present < r.ring.slots.length ∨ r.ring.oldest.any r.guards = false)

/-- The frame that leaves the ring at the next write, if the ring is full (R83). -/
def Ring.leaving (r : Ring) : Option Nat := if r.present = r.slots.length then r.oldest else none

/-- The ring after a write of frame `f` (R83). -/
def Ring.write (r : Ring) (f : RingFrame) : Ring :=
  { slots := r.slots.set r.writePos (some f), writePos := (r.writePos + 1) % r.slots.length,
    present := min r.slots.length (r.present + 1), newest := some f.number }

/-- RECORDER_GAP, when the gap count written is above 0 (R89, R90). -/
def gapEvent (f : RingFrame) (s : State) : State :=
  if f.gap = 0 then s
  else raiseEvent .recorderGap (inputCode f.source) (be 4 f.number ++ be 2 f.gap) s

/-- The recorder after it has written record number `k` (R89). -/
def Recorder.wrote (r : Recorder) (k : Nat) : Recorder :=
  { r with state := if k = Config.lastRecord then .idle else .recording, gap := 0, lastNumber := k,
           exhausted := r.exhausted || k = Config.lastRecord }

/-- The frame that a write puts into the ring (R84, R89). -/
def State.newFrame (s : State) (stamp : Time) (picture : Picture) : RingFrame :=
  let r := s.replay.recorder
  { number := r.lastNumber + 1, capture := stamp, source := r.source, picture := (storedPicture picture).1,
    reduced := (storedPicture picture).2, snapshot := r.snapshot.getD s.clockSnapshot, gap := r.gap }

/-- A good source frame is written (R89). DEDUCED from the order of R89's text: MARK_STALE is queued before RECORDER_GAP
(notes/assumptions/30.md). -/
def writeFrame (stamp : Time) (picture : Picture) (s : State) : State :=
  let f := s.newFrame stamp picture
  let s1 := { s with replay.ring := s.replay.ring.write f, replay.recorder := s.replay.recorder.wrote f.number }
  let s2 := match s.replay.ring.leaving with | none => s1 | some k => staleMarks k s1
  gapEvent f s2

/-- RECORDER_HELD, on entry into HELD (R90). -/
def heldEvent (s : State) : State :=
  raiseEvent .recorderHeld 0 (be 4 (s.replay.ring.oldest.getD 0) ++ be 4 s.replay.player.position) s

/-- The recorder takes the clock snapshot at an input frame start of its source (R88). -/
def takeSnapshot (i : InputId) (s : State) : State :=
  if s.replay.recorder.source = i ∧ s.replay.recorder.state ≠ .idle then
    { s with replay.recorder.snapshot := some s.clockSnapshot }
  else s

/-- The receiver of input `i` hands the recorder a frame; `picture` is the frame's picture if it was good (R88). -/
def handFrame (i : InputId) (stamp : Time) (picture : Option Picture) (s : State) : State :=
  if s.replay.recorder.source ≠ i then s
  else
    let s' :=
      match s.replay.recorder.state with
      | .idle => s
      | .wait => missFrame s
      | .recording =>
        match picture with
        | none => missFrame s
        | some p =>
          if s.replay.mayWrite then writeFrame stamp p s
          else heldEvent (missFrame { s with replay.recorder.state := .held })
      | .held =>
        match picture with
        | none => missFrame s
        | some p => if s.replay.mayWrite then writeFrame stamp p s else missFrame s
    { s' with replay.recorder.snapshot := none }

/-- The ring emptied at a MEMORY commit that changes R: every mark becomes EMPTY (R68, R83, R95). -/
def emptyRing (slots : Nat) (s : State) : State :=
  { s with replay.ring := Ring.ofSlots slots, replay.marks := Vector.replicate 16 .empty }

/-! ### The player (section 5.4) -/

/-- The state a command acts on: the remembered one while SUSPENDED (R105). -/
def Player.motion (p : Player) : PlayerState := if p.state = .suspended then p.remembered.getD .paused else p.state

/-- The player with that state set, or remembered while SUSPENDED (R105). -/
def Player.setMotion (p : Player) (m : PlayerState) : Player :=
  if p.state = .suspended then { p with remembered := some m } else { p with state := m }

/-- The player set up on mark `m` at its in-point, with state `st`; under takeover the state is remembered (R97, R105). -/
def Player.setUp (p : Player) (takeover : Bool) (m : Fin 16) (c : Clip) (st : PlayerState) : Player :=
  { p with mark := m, position := c.inPoint, phase := 0, reposition := true,
           state := if takeover then .suspended else st, remembered := if takeover then some st else none }

/-- CUE (R97). -/
def cueOp (mark : Nat) (s : State) : Reply :=
  match index? 16 mark with
  | none => refuse s .range
  | some m =>
    match s.replay.marks[m].validClip with
    | none => refuse s .notValid
    | some c => accept { s with replay.player := s.replay.player.setUp s.msgs.takeover m c .cued }

/-- An end action by its code (R97). -/
def endAction? : Nat → Option EndAction
  | 0 => some .hold
  | 1 => some .stop
  | 2 => some .loop
  | _ => none

/-- `n` clamped to `lo` to `hi`. -/
def clampNat (lo hi n : Nat) : Nat := max lo (min hi n)

/-- PLAY (R97). DESIGN CHOICE: RANGE is tested before NOT_VALID (notes/assumptions/35.md). -/
def playOp (mark n d endAct : Nat) (s : State) : Reply :=
  match index? 16 mark, endAction? endAct with
  | some m, some e =>
    match s.replay.marks[m].validClip with
    | none => refuse s .notValid
    | some c =>
      accept { s with replay.player :=
        { s.replay.player.setUp s.msgs.takeover m c .playing with
          rateN := clampNat 1 4 n, rateD := clampNat 1 8 d, endAction := e } }
  | _, _ => refuse s .range

/-- PAUSE (R98). -/
def pauseOp (s : State) : Reply :=
  match s.replay.player.motion with
  | .playing => accept { s with replay.player := s.replay.player.setMotion .paused }
  | .cued => accept { s with replay.player := s.replay.player.setMotion .paused }
  | .paused => accept s
  | _ => refuse s .noClip

/-- CONTINUE (R98). -/
def continueOp (s : State) : Reply :=
  match s.replay.player.motion with
  | .paused => accept { s with replay.player := s.replay.player.setMotion .playing }
  | .cued => accept { s with replay.player := s.replay.player.setMotion .playing }
  | .playing => accept s
  | _ => refuse s .noClip

/-- The lower end of a STEP: the later of the in-point and the oldest present frame (R99). -/
def Replay.stepLow (r : Replay) : Nat :=
  max ((r.marks[r.player.mark].clip.map (·.inPoint)).getD 0) (r.ring.oldest.getD 0)

/-- STEP by a signed count (R99). DESIGN CHOICE: RANGE is tested before NO_CLIP and NOT_PAUSED (notes/assumptions/35.md). -/
def stepOp (amount : Int) (s : State) : Reply :=
  if amount = 0 ∨ amount < -255 ∨ 255 < amount then refuse s .range
  else match s.replay.player.motion with
    | .playing => refuse s .notPaused
    | .paused | .cued =>
      let r := s.replay
      let p := max (r.stepLow : Int) (min (r.endFrame : Int) ((r.player.position : Int) + amount))
      accept { s with replay.player :=
        { r.player.setMotion .paused with position := p.toNat, phase := 0, reposition := true } }
    | _ => refuse s .noClip

/-- PLAYER_STOP, and the stop of the player by a control reset (R100). -/
def playerStop (s : State) : State :=
  if s.replay.player.state = .idle then s
  else { s with replay.player.state := .idle, replay.player.remembered := none, replay.player.reposition := false }

/-- Stage 1 of the player's frame start (R101). -/
def Player.underTakeover (takeover : Bool) (p : Player) : Player :=
  match p.state with
  | .idle => p
  | .suspended => if takeover then p else { p with state := p.remembered.getD .paused, remembered := none }
  | st => if takeover then { p with state := .suspended, remembered := some st } else p

/-- The moves of one advance (R102): the phase and the position after, and whether the clip has ended. -/
def advanceMoves : Nat → Nat → Nat → Nat → Nat → Nat × Nat × Bool
  | 0, _, _, phase, p => (phase, p, false)
  | fuel + 1, endFrame, d, phase, p =>
    if phase < d then (phase, p, false)
    else if endFrame ≤ p then (phase, p, true)
    else advanceMoves fuel endFrame d (phase - d) (p + 1)

def EndAction.code : EndAction → Nat
  | .hold => 0 | .stop => 1 | .loop => 2

/-- The end action carried out: a LOOP on a STALE mark is carried out as HOLD (R103). -/
def carriedOut (e : EndAction) (m : Mark) : EndAction :=
  match e, m with
  | .loop, .valid _ => .loop
  | .loop, _ => .hold
  | e, _ => e

/-- The player after its clip has ended at position `p` with end action `e` carried out (R103). -/
def Player.ended (pl : Player) (e : EndAction) (p inPoint : Nat) : Player :=
  match e with
  | .hold => { pl with state := .paused, position := p, phase := 0 }
  | .stop => { pl with state := .idle, position := p }
  | .loop => { pl with position := inPoint, phase := 0 }

/-- A clip ends at position `p`: the end action, the PLAYER_ENDED event and the trigger (R103). -/
def endClip (t : Time) (p : Nat) (s : State) : State :=
  let pl := s.replay.player
  let c := (s.replay.marks[pl.mark].clip).getD ⟨0, none, 0⟩
  let e := carriedOut pl.endAction s.replay.marks[pl.mark]
  let s1 := { s with replay.player := pl.ended e p c.inPoint }
  let s2 := raiseEvent .playerEnded pl.mark.val
    (be 1 pl.mark.val ++ be 2 c.label ++ be 1 e.code ++ be 1 (if c.outPoint = none then 1 else 0) ++ be 4 p) s1
  raiseTrigger t .playerEnded s2

/-- An advance (R102). -/
def playerAdvance (t : Time) (s : State) : State :=
  let pl := s.replay.player
  let phase := pl.phase + pl.rateN
  match advanceMoves phase s.replay.endFrame pl.rateD phase pl.position with
  | (phase', p, false) => { s with replay.player.phase := phase', replay.player.position := p }
  | (_, p, true) => endClip t p s

/-- The player's stages at an output frame start (R101). -/
def playerFrame (t : Time) (s : State) : State :=
  let s1 := { s with replay.player := s.replay.player.underTakeover s.msgs.takeover }
  let pl := s1.replay.player
  let s2 := if pl.state = .playing ∧ pl.frameState = .playing ∧ pl.reposition = false then playerAdvance t s1 else s1
  let pl2 := s2.replay.player
  { s2 with replay.player :=
    { pl2 with presented := if pl2.state = .idle then none else some ⟨pl2.position, pl2.mark⟩, frameState := pl2.state,
               reposition := false } }

end Sys2Proof.Machine
end

