-- ==== Sys2Proof/Machine/Links.lean ====
section
/-! DEFINITION. The link receivers and the frame timing unit (chapter 1): lock, feed states, the program operating state and
the schedule of output frame starts. -/

namespace Sys2Proof.Machine

/-! ### Judging a frame (R2) -/

/-- `interval` lies inside the tolerance window of the rate (R2). -/
def inWindow (rate : Rate) (interval : Nat) : Bool :=
  match rate with
  | .hz50 => 537300 ≤ interval ∧ interval ≤ 542700
  | .hz5994 => 448198 ≤ interval ∧ interval ≤ 452702
  | .hz60 => 447750 ≤ interval ∧ interval ≤ 452250

/-- The distance of two numbers. -/
def distance (a b : Nat) : Nat := max a b - min a b

/-- The rate of a good frame's interval; inside both windows, the rate whose nominal period is nearer, and 59.94 Hz when
equally near (R2). -/
def rateOfInterval (interval : Nat) : Option Rate :=
  if inWindow .hz50 interval then some .hz50
  else if inWindow .hz5994 interval ∧ inWindow .hz60 interval then
    some (if distance (nominal .hz60) interval < distance (nominal .hz5994) interval then .hz60 else .hz5994)
  else if inWindow .hz5994 interval then some .hz5994
  else if inWindow .hz60 interval then some .hz60
  else none

/-- What a frame is classified as (R2). -/
inductive FrameClass where
  | unmeasured
  | good (rate : Rate)
  | bad
deriving DecidableEq, Repr

/-- A frame's structure is valid (R2). -/
def InputFrame.structureValid (f : InputFrame) : Bool :=
  f.whole ∧ f.picture.width ≤ Config.maxFrameWidth ∧ f.picture.height ≤ Config.maxFrameHeight

/-- The class of a frame that starts at `t` (R2). -/
def classify (r : Receiver) (t : Time) (f : InputFrame) : FrameClass :=
  match r.latest with
  | none => .unmeasured
  | some l =>
    if InputFrame.structureValid f ∧ f.checkCorrect then
      match rateOfInterval (elapsed l t) with
      | some rate => .good rate
      | none => .bad
    else .bad

/-- The frame timeout of a rate: 1.5 periods (R2). -/
def frameTimeout : Rate → Nat
  | .hz50 => 810000
  | .hz5994 => 675675
  | .hz60 => 675000

/-- The receiver with its runs, history and latest input frame start cleared (R3). -/
def Receiver.cleared (r : Receiver) : Receiver :=
  { r with goodRun := 0, badRun := 0, runRate := none, history := [], latest := none }

/-- The history after the previous latest input frame start `l` has joined it (R2). -/
def joinHistory (h : List Time) (l : Option Time) : List Time :=
  match l with
  | none => h
  | some x => (if 8 ≤ h.length then h.drop 1 else h) ++ [x]

/-- The runs and the lock state of an ACQUIRING input after a frame (R3). -/
def Receiver.acquire (r : Receiver) (c : FrameClass) : Receiver :=
  match c with
  | .unmeasured => r
  | .bad => { r with goodRun := 0, badRun := min Config.lossRun (r.badRun + 1) }
  | .good rate =>
    if r.runRate = some rate then
      { r with goodRun := min Config.lockRun (r.goodRun + 1), badRun := 0,
               lock := if Config.lockRun ≤ r.goodRun + 1 then .locked rate else r.lock }
    else { r with runRate := some rate, goodRun := 1, badRun := 0 }

/-- The runs and the lock state of an input LOCKED at `rate` after a frame (R4). -/
def Receiver.judge (r : Receiver) (rate : Rate) (c : FrameClass) : Receiver :=
  if c = .good rate then { r with goodRun := min Config.lockRun (r.goodRun + 1), badRun := 0 }
  else if c = .unmeasured then r
  else if Config.lossRun ≤ r.badRun + 1 then { r with lock := .acquiring, goodRun := 0, badRun := 0, runRate := none }
  else { r with goodRun := 0, badRun := r.badRun + 1 }

/-- The mean of the eight newest intervals, to the nearest tick, a half rounded up (R5). -/
def meanPeriod (oldest latest : Time) : Nat := (elapsed oldest latest + 4) / 8

/-- The measured period after a frame of PGM (R5). -/
def Receiver.measure (r : Receiver) : Receiver :=
  if r.goodRun = Config.lockRun then
    match r.history.head?, r.latest with
    | some o, some l => { r with measured := some (meanPeriod o l) }
    | _, _ => r
  else r

/-- The receiver after a frame that starts at `t`, but for its feed state (R2 to R6). PGM alone keeps a measured period.
DEDUCED: every good frame replaces the frozen frame, also while ACQUIRING (R6); what HOLD offers is `held`, which no frame
renews (R8, notes/assumptions/32.md). -/
def Receiver.frame (r : Receiver) (i : InputId) (t : Time) (f : InputFrame) : Receiver :=
  let c := classify r t f
  let r1 := { r with latest := some t, history := joinHistory r.history r.latest,
                     structureValid := InputFrame.structureValid f, packetCount := 0 }
  let r2 := match r.lock with
    | .absent => r1
    | .acquiring => r1.acquire c
    | .locked rate => r1.judge rate c
  let r3 := if i = .pgm then r2.measure else r2
  match c with
  | .good _ => { r3 with frozen := some ⟨f.picture, t⟩ }
  | _ => r3

/-! ### Feed states (section 1.3) -/

/-- Input `i`'s feed becomes `f` at `t`: a change queues a FEED report, sends a FEED trigger and moves the recorder
(R9, R87). -/
def setFeed (t : Time) (i : InputId) (f : Feed) (s : State) : State :=
  let r := s.receiver i
  if r.feed = f then s
  else
    let s1 := s.setReceiver i { r with feed := f }
    let s2 := raise .feed 0 (inputCode i) (be 1 f.code) s1
    let s3 := raiseTrigger t (.feed i f) s2
    { s3 with replay.recorder := recorderFeed i f s3.replay.recorder }

/-- The operating state becomes `o`: a change queues a FEED report with subject OPERATING (R10). -/
def setOp (o : OpState) (s : State) : State :=
  if s.timing.op = o then s else raise .feed 0 2 (be 1 o.code) { s with timing.op := o }

/-- Input `i`'s hold timer expires (R8, R10). DESIGN CHOICE: the FEED report of the input is queued before that of the operating
state (notes/assumptions/30.md). -/
def holdExpired (t : Time) (i : InputId) (s : State) : State :=
  let s1 := s.setReceiver i { s.receiver i with holdTimer := none }
  let s2 := if (s1.receiver i).feed = .hold then setFeed t i .slate s1 else s1
  if i = .pgm ∧ s2.timing.op = .hold then setOp .fallback s2 else s2

/-- Start input `i`'s hold timer, to expire one hold time later; with a hold time of 0 it expires at once (R8). -/
def startHold (t : Time) (i : InputId) (s : State) : State :=
  let ticks := s.device.holdMs * Config.ticksPerMs
  let s1 := s.setReceiver i { s.receiver i with holdTimer := some (after t ticks) }
  if ticks = 0 then holdExpired t i s1 else s1

/-! ### The operating state and the schedule (sections 1.4 and 1.5) -/

/-- The free-run output period: the PGM measured period, or the nominal period of the default rate (R15). -/
def State.freeRunPeriod (s : State) : Nat :=
  match s.pgm.measured with
  | some p => p
  | none => nominal s.device.rate

/-- T_last + P (R16): the earliest instant at which the next output frame start shortens no frame. -/
def Timing.earliest (x : Timing) : Time := after x.lastFrameStart x.outputPeriod

/-- On entry into LIVE at `t`: the pending free-run frame start is cancelled and the output is realigned, from the latest PGM
input frame start if that one serves (R16). -/
def realign (t : Time) (s : State) : State :=
  let start? : Option Time :=
    match s.pgm.latest, s.pgm.lockedRate with
    | some l, some rate =>
      let x := after l (nominal rate)
      if reached t x ∧ x ≠ t ∧ reached s.timing.earliest x then some x else none
    | _, _ => none
  match start? with
  | some x => { s with timing.schedule := [x], timing.realigning := false }
  | none => { s with timing.schedule := [], timing.realigning := true }

/-- Entry into LIVE at `t` (R10, R16). -/
def enterLive (t : Time) (s : State) : State := setOp .live (realign t s)

/-- On leaving LIVE at `t`: scheduled frame starts stay; with none scheduled the next is set to the later of T_last + P and
`t` (R17). -/
def leaveSchedule (t : Time) (x : Timing) : Timing :=
  { x with realigning := false, schedule := if x.schedule = [] then [later x.earliest t] else x.schedule }

/-- PGM is lost at `t` (R10, R17). -/
def lossOfPgm (t : Time) (s : State) : State :=
  if s.timing.op = .live then setOp .hold { s with timing := leaveSchedule t s.timing } else s

/-- The frozen frame of input `i` is held for HOLD when the feed leaves LIVE, or with PGM the operating state (R8, section 1.4).
DEDUCED: HOLD offers the frame as it stood at that instant (notes/assumptions/32.md). -/
def holdFrozen (i : InputId) (s : State) : State :=
  let r := s.receiver i
  if r.feed = .live ∨ (i = .pgm ∧ s.timing.op = .live) then s.setReceiver i { r with held := r.frozen } else s

/-- Input `i` leaves LOCKED at `t` (R8, R10). DESIGN CHOICE: the FEED report of the input is queued before that of the operating
state (notes/assumptions/30.md). -/
def leaveLocked (t : Time) (i : InputId) (s : State) : State :=
  let r := s.receiver i
  let start := r.feed = .live ∨ r.holdTimer = none
  let s0 := holdFrozen i s
  let s1 := if r.feed = .live then setFeed t i .hold s0 else s0
  let s2 := if i = .pgm then lossOfPgm t s1 else s1
  if start then startHold t i s2 else s2

/-- A relock of PGM at `t` (R11). -/
def relock (t : Time) (s : State) : State :=
  let limit := s.device.relockLimit
  let n := s.timing.relockCount
  let s1 := if n = 0 then
      { s with timing.relockWindow := some (after t (s.device.relockWindowS * Config.ticksPerSecond)) } else s
  if limit = 0 ∨ n < limit then enterLive t { s1 with timing.relockCount := min 15 (n + 1) }
  else setOp .lockout s1

/-- A lock of PGM at `t` (R10). -/
def lockOfPgm (t : Time) (s : State) : State :=
  match s.timing.op with
  | .seeking => enterLive t s
  | .hold => relock t s
  | .fallback => relock t s
  | _ => s

/-- Input `i` becomes LOCKED at `t`: its hold timer stops (R8). -/
def becomeLocked (t : Time) (i : InputId) (s : State) : State :=
  let s1 := s.setReceiver i { s.receiver i with holdTimer := none }
  if i = .pgm then lockOfPgm t s1 else s1

/-- A PGM input frame start at `t` schedules an output frame start in LIVE: the realigned one (R16), or one nominal period
later, unless it comes less than half a nominal period after the one before, `prev` (R14). -/
def genlock (t : Time) (prev : Option Time) (rate : Rate) (x : Timing) : Timing :=
  let y := after t (nominal rate)
  if x.realigning then
    if reached x.earliest y then { x with schedule := [y], realigning := false } else x
  else if prev.any fun p => 2 * elapsed p t < nominal rate then x
  else { x with schedule := x.schedule ++ [y] }

/-- The lock state, the feed and the schedule after a frame of input `i` at `t`: `before` is its receiver before the frame,
and `live` tells whether the operating state was LIVE (R3, R4, R14, R16, R17). -/
def afterFrame (t : Time) (i : InputId) (before : Receiver) (live : Bool) (s : State) : State :=
  match before.lockedRate, (s.receiver i).lockedRate with
  | some _, none => leaveLocked t i s
  | none, some _ => becomeLocked t i s
  | some rate, some _ => if i = .pgm ∧ live then { s with timing := genlock t before.latest rate s.timing } else s
  | none, none => s

/-- The picture of a frame if the frame is good. -/
def goodPicture (r : Receiver) (t : Time) (f : InputFrame) : Option Picture :=
  match classify r t f with
  | .good _ => some f.picture
  | _ => none

/-- An input frame start on input `i` at `t` (R2 to R7, R14, R88). An ABSENT input has none. -/
def inputFrame (t : Time) (i : InputId) (f : InputFrame) (s : State) : State :=
  let r := s.receiver i
  if r.lock = .absent then s
  else
    let s1 := takeSnapshot i s
    let s2 := s1.setReceiver i (r.frame i t f)
    let s3 := afterFrame t i r (s.timing.op = .live) s2
    handFrame i t (goodPicture r t f) s3

/-- The signal of input `i` becomes present (R3). -/
def signalOn (i : InputId) (s : State) : State :=
  let r := { s.receiver i with signal := true }
  s.setReceiver i (if r.lock = .absent then { r.cleared with lock := .acquiring } else r)

/-- The signal of input `i` becomes absent at `t` (R3, R4). -/
def signalOff (t : Time) (i : InputId) (s : State) : State :=
  let r := s.receiver i
  match r.lock with
  | .absent => s.setReceiver i { r with signal := false }
  | .acquiring => s.setReceiver i { r.cleared with signal := false, lock := .absent }
  | .locked _ => leaveLocked t i (s.setReceiver i { r.cleared with signal := false, lock := .absent })

/-- No input frame start has come for `n` ticks after the latest one (R3, R4). -/
def Receiver.silent (r : Receiver) (t : Time) (n : Nat) : Bool := r.latest.any fun l => n ≤ elapsed l t

/-- The frame timeout of an ACQUIRING input (R3). -/
def acquiringTimeout (t : Time) (i : InputId) (s : State) : State :=
  let r := s.receiver i
  if r.lock = .acquiring ∧ r.silent t Config.acquiringTimeout then s.setReceiver i r.cleared else s

/-- The frame timeout of a LOCKED input (R4). -/
def lockedTimeout (t : Time) (i : InputId) (s : State) : State :=
  let r := s.receiver i
  match r.lockedRate with
  | none => s
  | some rate =>
    if r.silent t (frameTimeout rate) then leaveLocked t i (s.setReceiver i { r.cleared with lock := .acquiring }) else s

/-- A receiver's feed at an output frame start (R8). -/
def feedFrame (t : Time) (i : InputId) (s : State) : State :=
  if (s.receiver i).isLocked then setFeed t i .live s else s

/-- RESUME (R12). -/
def resumeOp (t : Time) (s : State) : Reply :=
  if s.timing.op ≠ .lockout then accept s
  else if s.pgm.isLocked then accept (enterLive t { s with timing.relockCount := 0, timing.relockWindow := none })
  else refuse s .notLocked

/-- An output frame start occurs at `t` when the earliest scheduled one falls at that instant (R14, R18). -/
def frameScheduled (t : Time) (s : State) : Bool := s.timing.schedule.head? = some t

/-- An output frame start taken at `t`: T_f becomes the last frame-start timestamp and the output period is taken anew
(R14, R15, R18). -/
def takeFrameStart (t : Time) (s : State) : State :=
  let p := if s.timing.op = .live then (s.pgm.lockedRate.map nominal).getD s.timing.outputPeriod else s.freeRunPeriod
  { s with timing.lastFrameStart := t, timing.outputPeriod := p, timing.schedule := s.timing.schedule.drop 1 }

/-- Outside LIVE, the next output frame start is scheduled one output period later, unless one is still scheduled
(R15, R17). -/
def freeRun (t : Time) (s : State) : State :=
  if s.timing.op ≠ .live ∧ s.timing.schedule = [] then
    { s with timing.outputPeriod := s.freeRunPeriod, timing.schedule := [after t s.freeRunPeriod] }
  else s

end Sys2Proof.Machine
end

