-- ==== Sys2Proof/Machine/Assets.lean ====
section
/-! DEFINITION. The asset store (chapter 4): allocation, loading, dropping, and how a holder sees an asset. -/

namespace Sys2Proof.Machine

/-! ### Blocks (sections 4.1 and 4.3) -/

/-- The blocks of the asset area: 0 to one below this (R66). -/
def assetArea (ringSlots : Nat) : Nat := Config.dramBlocks - Config.slotBlocks * ringSlots

/-- An asset occupies blocks: it is not EMPTY (R66). -/
def Asset.occupies (a : Asset) : Bool := a.state ≠ .empty

/-- Two runs of blocks, of `n` blocks from `x` on and of `k` blocks from `y` on, have a block in common. -/
def runsMeet (x n y k : Nat) : Bool := x < y + k ∧ y < x + n

/-- The records of the assets whose blocks are not free in a search for id `id`: every other occupying asset (R71). -/
def State.others (s : State) (id : AssetId) : List Asset :=
  ((List.finRange 512).filter fun j => j ≠ id ∧ s.assets.recs[j].occupies).map fun j => s.assets.recs[j]

/-- `n` blocks from `x` on lie inside the asset area and are free of `taken`. -/
def runFree (area : Nat) (taken : List Asset) (n x : Nat) : Bool :=
  x + n ≤ area ∧ taken.all fun a => !runsMeet x n a.firstBlock a.blocks

/-- The lowest of some block numbers. -/
def lowest : List Nat → Option Nat
  | [] => none
  | x :: xs => some (xs.foldl min x)

/-- First fit (R72): the lowest block from which `n` blocks are free. A lowest free run begins at block 0 or right after
the blocks of an asset, so only those starts are looked at. -/
def firstFit (area : Nat) (taken : List Asset) (n : Nat) : Option Nat :=
  lowest ((0 :: taken.map fun a => a.firstBlock + a.blocks).filter (runFree area taken n))

/-- The block count of a data size (R69). -/
def blocksFor (dataSize : Nat) : Nat := (dataSize + (Config.blockBytes - 1)) / Config.blockBytes

/-! ### Loading (section 4.3) -/

/-- An asset kind by its code (R69). -/
def assetKind? : Nat → Option AssetKind
  | 0 => some .image
  | 1 => some .strip
  | 2 => some .digitSet
  | 3 => some .sequence
  | _ => none

def AssetKind.code : AssetKind → Nat
  | .image => 0 | .strip => 1 | .digitSet => 2 | .sequence => 3

/-- The largest width or cell width, height or cell height, and frame count of a kind (R69). -/
def AssetKind.largest : AssetKind → Nat × Nat × Nat
  | .image => (4096, 2048, 1)
  | .strip => (32768, 256, 1)
  | .digitSet => (256, 512, 1)
  | .sequence => (4096, 2048, 255)

/-- The size, frame count and frame interval given lie inside the kind's limits (R69). -/
def AssetKind.admits (k : AssetKind) (width height frames interval : Nat) : Bool :=
  let m := k.largest
  1 ≤ width ∧ width ≤ m.1 ∧ 1 ≤ height ∧ height ≤ m.2.1 ∧ 1 ≤ frames ∧ frames ≤ m.2.2 ∧ 1 ≤ interval ∧ interval ≤ 255

/-- The width a record takes: fourteen cells for a DIGIT_SET (R69). -/
def AssetKind.recordWidth (k : AssetKind) (width : Nat) : Nat := if k = .digitSet then 14 * width else width

/-- The record of an asset whose load begins at `t` on block `first` (R71). -/
def openedAsset (t : Time) (k : AssetKind) (width height frames interval first : Nat) : Asset :=
  let size := k.recordWidth width * height * 4 * frames
  { state := .loading, kind := k, width := k.recordWidth width, height := height, frames := frames, interval := interval,
    dataSize := size, firstBlock := first, blocks := blocksFor size, received := 0, crc := crc32Start,
    timer := some (after t Config.assetLoadTimer), pins := 0 }

/-- ASSET_OPEN (R71). -/
def assetOpenOp (t : Time) (id kind width height frames interval : Nat) (s : State) : Reply :=
  match assetId? id, assetKind? kind with
  | some a, some k =>
    if k.admits width height frames interval = false then refuse s .range
    else
      let old := s.assets.recs[a]
      if (old.state = .ready ∧ 0 < old.pins) ∨ old.state = .doomed then refuse s .inUse
      else
        let size := k.recordWidth width * height * 4 * frames
        match firstFit (assetArea s.ringSlots) (s.others a) (blocksFor size) with
        | none => refuse s .noSpace
        | some first => accept (s.setAsset a (openedAsset t k width height frames interval first))
  | _, _ => refuse s .range

/-- The DRAM address of byte `n` of an asset's data (R70). -/
def Asset.address (a : Asset) (n : Nat) : Nat := a.firstBlock * Config.blockBytes + n

/-- ASSET_DATA takes a segment: the bytes are stored and enter the running check, and the load timer restarts (R70, R73). -/
def takeData (t : Time) (id : AssetId) (data : List Byte) (s : State) : State :=
  let a := s.assets.recs[id]
  { s with assets :=
    { recs := s.assets.recs.set id
        { a with received := a.received + data.length, crc := crc32Run a.crc data,
                 timer := some (after t Config.assetLoadTimer) },
      dram := s.assets.dram.write (a.address a.received) data } }

/-- ASSET_DATA (R73). DESIGN CHOICE: ORDER is tested before the RANGE of the segment's end (notes/assumptions/35.md). -/
def assetDataOp (t : Time) (id offset : Nat) (data : List Byte) (s : State) : Reply :=
  match assetId? id with
  | none => refuse s .range
  | some i =>
    let a := s.assets.recs[i]
    if a.state ≠ .loading ∨ offset ≠ a.received then refuse s .order
    else if a.dataSize < offset + data.length then refuse s .range
    else accept (takeData t i data s)

/-- A segment that `assetDataOp` takes would be stored at addresses the DRAM does not have (R66). -/
def dataOutside (id offset : Nat) (data : List Byte) (s : State) : Bool :=
  match assetId? id with
  | none => false
  | some i =>
    let a := s.assets.recs[i]
    a.state = .loading ∧ offset = a.received ∧ offset + data.length ≤ a.dataSize ∧
      Config.dramBytes < a.address offset + data.length

/-- ASSET_FAILED (R81): reasons 0 SHORT, 1 CHECK, 2 TIMEOUT, 3 HEALTH. -/
def failedEvent (id : AssetId) (reason received : Nat) (s : State) : State :=
  raiseEvent .assetFailed id.val (be 2 id.val ++ be 1 reason ++ be 5 received) s

/-- ASSET_READY (R81). -/
def readyEvent (id : AssetId) (a : Asset) (s : State) : State :=
  raiseEvent .assetReady id.val (be 2 id.val ++ be 1 a.kind.code ++ be 3 a.firstBlock ++ be 3 a.blocks) s

/-- ASSET_CLOSE (R74). -/
def assetCloseOp (id : Nat) (check : BitVec 32) (s : State) : Reply :=
  match assetId? id with
  | none => refuse s .range
  | some i =>
    let a := s.assets.recs[i]
    if a.state ≠ .loading then refuse s .order
    else if a.received = a.dataSize ∧ ~~~ a.crc = check then
      accept (readyEvent i a (s.setAsset i { a with state := .ready, timer := none }))
    else
      accept (failedEvent i (if a.received = a.dataSize then 1 else 0) a.received (s.setAsset i Asset.empty))

/-- A LOADING asset's load timer expires at `t` (R75). -/
def assetTimeout (t : Time) (id : AssetId) (s : State) : State :=
  let a := s.assets.recs[id]
  if a.state = .loading ∧ due a.timer t then failedEvent id 2 a.received (s.setAsset id Asset.empty) else s

/-- One asset when every LOADING asset is abandoned; `report` tells whether ASSET_FAILED HEALTH is queued (R76). -/
def abandonAsset (report : Bool) (s : State) (id : AssetId) : State :=
  let a := s.assets.recs[id]
  if a.state = .loading then
    let s1 := s.setAsset id Asset.empty
    if report then failedEvent id 3 a.received s1 else s1
  else s

/-- Every LOADING asset is abandoned (R76). DESIGN CHOICE: their ASSET_FAILED events are queued in ascending asset id; the spec
gives no order (notes/assumptions/30.md). -/
def abandonAssets (report : Bool) (s : State) : State := (List.finRange 512).foldl (abandonAsset report) s

/-- ASSET_DROP (R78). -/
def assetDropOp (id : Nat) (s : State) : Reply :=
  match assetId? id with
  | none => refuse s .range
  | some i =>
    let a := s.assets.recs[i]
    match a.state with
    | .empty => accept s
    | .loading => accept (s.setAsset i Asset.empty)
    | .ready => if a.pins = 0 then accept (s.setAsset i Asset.empty) else accept (s.setAsset i { a with state := .doomed })
    | .doomed => accept s

/-! ### How a holder sees an asset (section 4.5) -/

/-- An asset is a READY picture of one of two kinds. -/
def Asset.readyOf (a : Asset) (k1 k2 : AssetKind) : Bool := a.state = .ready ∧ (a.kind = k1 ∨ a.kind = k2)

/-- The asset may be selected as a creative, or pinned as a fill: a READY IMAGE or SEQUENCE (R154, R161). -/
def Asset.showable (a : Asset) : Bool := a.readyOf .image .sequence

/-- The asset may be posted as a strip: a READY STRIP or IMAGE (R168). -/
def Asset.postable (a : Asset) : Bool := a.readyOf .strip .image

/-- The compositor may use asset `id`: it is READY, or DOOMED and pinned by the compositor, which takes no new pin on a
DOOMED asset and so has held it since before the drop (R52, R80). -/
def usableBy (recs : Vector Asset 512) (pins : List AssetId) (id : AssetId) : Bool :=
  recs[id].state = .ready ∨ (recs[id].state = .doomed ∧ id ∈ pins)

/-! ### The MEMORY table (R67, R68) -/

/-- A MEMORY staging copy is valid against the part's state (R67). -/
def memoryValid (s : State) (bs : List Byte) : Bool :=
  let r := ringSlotsOf bs
  r ≤ Config.maxRingSlots ∧ r % 64 = 0 ∧
    (r = s.ringSlots ∨
      (s.replay.recorder.state = .idle ∧ s.replay.player.state = .idle ∧
        (r ≤ s.ringSlots ∨ (List.finRange 512).all fun i =>
          let a := s.assets.recs[i]
          !(a.occupies && runsMeet a.firstBlock a.blocks (assetArea r) (assetArea s.ringSlots - assetArea r)))))

end Sys2Proof.Machine
end

