-- ==== Sys2Proof/Machine/Clocks.lean ====
section
/-! DEFINITION. The clock unit (chapter 6): commands and effective times, the stages of a frame start, expiry, following the
console, and the display value. -/

namespace Sys2Proof.Machine

/-- The end of a channel: 0 for DOWN; for UP its limit, D or Vmax when D is 0 (R107). -/
def ClockCfg.limit (c : ClockCfg) : Nat := if c.period = 0 then Config.vmax else c.period

def ClockCfg.stopAt (c : ClockCfg) : Nat := if c.direction = .down then 0 else c.limit

/-- The largest value the channel may hold: Vmax, and for UP its limit (R108). -/
def ClockCfg.top (c : ClockCfg) : Nat := if c.direction = .down then Config.vmax else c.limit

/-- The value's way to its end (R111, R120). -/
def ClockCfg.distanceFrom (c : ClockCfg) (v : Nat) : Nat := if c.direction = .down then v else c.limit - v

/-- A value in ticks clamped to the channel's range (R108). -/
def ClockCfg.clamp (c : ClockCfg) (v : Int) : Nat := (max 0 (min (c.top : Int) v)).toNat

/-- The state with channel `c` replaced. -/
def State.setClock (s : State) (c : Fin 4) (k : Clock) : State := { s with clocks := s.clocks.set c k }

/-! ### Expiry (section 6.3) -/

/-- What an expiry at t_x does at instant `h`, beyond the channel's own state: the EXPIRED report, the CLOCK_EXPIRED trigger and,
if horn on expiry is set, the horn request from t_x on (R111, R112, R113). The effective time `te` of the stop that found it goes
with the trigger and the request as data (R120). DESIGN CHOICE: the report has no byte for te (notes/assumptions/36.md). -/
def announceExpiry (h : Time) (c : Fin 4) (tx : Time) (te : Option Time) (before : Nat) (s : State) : State :=
  let cfg := s.clockCfg c
  let s1 := raiseClock c 0 tx cfg.stopAt before s
  let s2 := raiseTrigger h (.clockExpired c tx te) s1
  if cfg.hornOn then hornRequest h ⟨tx, after tx (cfg.hornMs * Config.ticksPerMs), te⟩ s2 else s2

/-! ### The stages of a frame start (sections 6.2 to 6.4) -/

/-- The step of an advance over `e` ticks: the pending correction limited to a sixteenth of them (R110). -/
def slewStep (correction : Int) (e : Nat) : Int :=
  max (-((e / 16 : Nat) : Int)) (min ((e / 16 : Nat) : Int) correction)

/-- The value an advance over `e` ticks with step `k` leads to, before it is held at the end (R110). -/
def ClockCfg.moved (cfg : ClockCfg) (v e : Nat) (k : Int) : Int :=
  if cfg.direction = .down then (v : Int) - e + k else (v : Int) + e + k

/-- The movement of the frame, M (R111). -/
def ClockCfg.movement (cfg : ClockCfg) (e : Nat) (k : Int) : Nat :=
  (if cfg.direction = .down then (e : Int) - k else (e : Int) + k).toNat

/-- The value is at or past the channel's end (R111). -/
def ClockCfg.pastEnd (cfg : ClockCfg) (v : Int) : Bool :=
  if cfg.direction = .down then v ≤ 0 else (cfg.limit : Int) ≤ v

/-- The expiry instant: a + ⌈distance × E / M⌉ (R111). -/
def expiryInstant (a : Time) (distance e m : Nat) : Time :=
  if e = 0 then a else after a ((distance * e + (m - 1)) / m)

/-- Stages 1 and 2 for channel `c` at frame start `t` (R110, R111). -/
def clockAdvance (t : Time) (s : State) (c : Fin 4) : State :=
  let k := s.clocks[c]
  let cfg := s.clockCfg c
  if k.state ≠ .running then s.setClock c { k with ref := t }
  else
    let e := elapsed k.ref t
    let step := slewStep k.correction e
    let v := cfg.moved k.value e step
    if cfg.pastEnd v then
      let tx := expiryInstant k.ref (cfg.distanceFrom k.value) e (cfg.movement e step)
      announceExpiry t c tx none k.value (s.setClock c { k with state := .expired, value := cfg.stopAt, correction := 0, ref := t })
    else s.setClock c { k with value := v.toNat, correction := k.correction - step, ref := t }

/-- The console value now, Vn (R115). -/
def consoleNow (cfg : ClockCfg) (t : Time) (p : ConsoleReport) : Nat :=
  let base : Int := p.ms * Config.ticksPerMs
  let age : Int := elapsed p.arrival t + cfg.latency
  cfg.clamp (if p.running = false then base else if cfg.direction = .down then base - age else base + age)

/-- What reconciling with a report does to a channel (R116): the channel after, and whether a SNAP is reported. -/
def reconcile (cfg : ClockCfg) (t : Time) (running : Bool) (vn : Nat) (k : Clock) : Clock × Bool :=
  let e := distance vn k.value
  match k.state, running with
  | .stopped, false => ({ k with value := vn }, false)
  | .stopped, true => ({ k with value := vn, state := .running, ref := t, correction := 0 }, decide (cfg.deadband < e))
  | .running, false => ({ k with value := vn, state := .stopped, correction := 0 }, false)
  | .running, true =>
    if e ≤ cfg.deadband then ({ k with correction := 0 }, false)
    else if e ≤ cfg.snap then ({ k with correction := (vn : Int) - k.value }, false)
    else ({ k with value := vn, correction := 0 }, true)
  | .expired, false => if vn = cfg.stopAt then (k, false) else ({ k with value := vn, state := .stopped }, false)
  | .expired, true =>
    if vn = cfg.stopAt then (k, false)
    else ({ k with value := vn, state := .running, ref := t, correction := 0 }, true)

/-- Stage 3 for channel `c` at frame start `t` (R115, R116). -/
def clockConsole (t : Time) (s : State) (c : Fin 4) : State :=
  let k := s.clocks[c]
  let cfg := s.clockCfg c
  match cfg.console, k.console with
  | true, some p =>
    let vn := consoleNow cfg t p
    let r := reconcile cfg t p.running vn k
    let s1 := s.setClock c { r.1 with console := none, lastReport := some t, stale := false }
    if r.2 then raiseClock c 1 t vn k.value s1 else s1
  | _, _ => s

/-- Stage 4 for channel `c` at frame start `t` (R117). -/
def clockStale (t : Time) (s : State) (c : Fin 4) : State :=
  let k := s.clocks[c]
  let cfg := s.clockCfg c
  match k.lastReport with
  | none => s
  | some l =>
    if cfg.console ∧ k.state = .running ∧ k.stale = false ∧ 0 < cfg.silenceMs ∧
        cfg.silenceMs * Config.ticksPerMs ≤ elapsed l t then
      raiseClock c 2 l k.value 0 (s.setClock c { k with stale := true })
    else s

/-- Stages 1 to 4 for channel `c` (R109). -/
def clockStages (t : Time) (s : State) (c : Fin 4) : State := clockStale t (clockConsole t (clockAdvance t s c) c) c

/-! ### Frame value and display value (section 6.6) -/

/-- ⌈a / b⌉. -/
def ceilDiv (a b : Nat) : Nat := (a + (b - 1)) / b

/-- The tenths count t of a value (R126). -/
def tenthsCount (d : Direction) (v : Nat) : Nat :=
  if d = .down then ceilDiv v Config.ticksPerTenth else v / Config.ticksPerTenth

/-- The seconds count s of a value (R126). -/
def secondsCount (d : Direction) (v : Nat) : Nat :=
  if d = .down then ceilDiv v Config.ticksPerSecond else v / Config.ticksPerSecond

/-- The display has the form TENTHS rather than MINUTES (R126). -/
def showsTenths (d : Direction) (threshold v : Nat) : Bool := v = 0 ∨ tenthsCount d v < threshold

/-- The display tenths of a value (R126). -/
def displayTenths (d : Direction) (threshold v : Nat) : Nat :=
  if v = 0 then 0 else if showsTenths d threshold v then tenthsCount d v else 10 * secondsCount d v

/-- Stage 6 for channel `c` at frame start `t` (R125). -/
def clockFrameValue (t : Time) (s : State) (c : Fin 4) : State :=
  let k := s.clocks[c]
  let cfg := s.clockCfg c
  let tenths := displayTenths cfg.direction cfg.tenths k.value
  let s1 := s.setClock c { k with frame := ⟨k.value, k.state, k.stale⟩, frameTenths := tenths }
  if tenths = k.frameTenths ∧ k.state = k.frame.state then s1
  else raiseTrigger t (.clockDisplay c cfg.direction k.state k.frameTenths tenths) s1

/-! ### The CLOCKS table (section 6.7) -/

/-- Entry `c` of a CLOCKS staging copy is valid (R127). -/
def clockEntryValid (s : State) (bs : List Byte) (c : Fin 4) : Bool :=
  let e := entryOf bs 32 c
  let cfg := clockCfgOf e
  byteAt e 0 ≤ 1 ∧ byteAt e 1 ≤ 1 ∧ byteAt e 2 ≤ 1 ∧ cfg.period ≤ Config.vmax ∧ cfg.latency ≤ 27000000 ∧
    cfg.snap ≤ 270000000 ∧ cfg.deadband ≤ 27000000 ∧ cfg.deadband ≤ cfg.snap ∧ cfg.silenceMs ≤ 60000 ∧
    cfg.tenths ≤ 60000 ∧ cfg.hornMs ≤ 10000 ∧ (cfg.direction = .up → s.clocks[c].value ≤ cfg.limit)

/-- Channel `c` after a CLOCKS commit at `t` (R128). DESIGN CHOICE: an EXPIRED UP channel whose limit the commit raises stays EXPIRED
with its V, below its new end, as R128 keeps state and V, although R108 gives an EXPIRED channel the value of its end
(notes/assumptions/43.md). -/
def clockCommitted (t : Time) (old new : ClockCfg) (k : Clock) : Clock :=
  let k1 := if old.direction ≠ new.direction ∧ k.state ≠ .stopped then { k with state := .stopped, correction := 0 }
    else k
  let k2 := if old.console ∧ new.console = false then { k1 with console := none, stale := false } else k1
  if old.console = false ∧ new.console then { k2 with lastReport := some t } else k2

/-- Every channel after the active CLOCKS table has changed from `old` (R128). -/
def clocksCommitted (t : Time) (old : List Byte) (s : State) : State :=
  { s with clocks := vmapIdx s.clocks fun c k => clockCommitted t (clockCfgAt old c) (s.clockCfg c) k }

/-! ### Commands, contact edges and effective times (section 6.5) -/

/-- The effective time of a claim whose event time is `e`: the later of it and the channel's reference time (R118). -/
def effective (e : Time) (k : Clock) : Time := later e k.ref

/-- A start taken with event time `e` (R119). DEDUCED: it sets the last report time in CONSOLE mode alone, as R119 says; R117 names no
mode (notes/assumptions/45.md). -/
def startClock (e : Time) (c : Fin 4) (s : State) : Reply :=
  let k := s.clocks[c]
  match k.state with
  | .running => accept s
  | .expired => refuse s .limit
  | .stopped =>
    let te := effective e k
    accept (s.setClock c { k with state := .running, ref := te,
                                  lastReport := if (s.clockCfg c).console then some te else k.lastReport })

/-- A stop with event time `e` that is taken at `h` (R120). -/
def stopClock (e h : Time) (c : Fin 4) (s : State) : State :=
  let k := s.clocks[c]
  let cfg := s.clockCfg c
  if k.state ≠ .running then s
  else
    let te := effective e k
    let n := elapsed k.ref te
    let d := cfg.distanceFrom k.value
    if n < d then
      s.setClock c { k with state := .stopped, correction := 0, ref := te,
                            value := if cfg.direction = .down then k.value - n else k.value + n }
    else
      announceExpiry h c (after k.ref d) (some te) k.value
        (s.setClock c { k with state := .expired, correction := 0, ref := te, value := cfg.stopAt })

/-- CLOCK_START (R119). -/
def clockStartOp (e : Time) (channel : Nat) (s : State) : Reply :=
  match index? 4 channel with
  | none => refuse s .range
  | some c => startClock e c s

/-- CLOCK_STOP (R120). -/
def clockStopOp (e : Time) (channel : Nat) (s : State) : Reply :=
  match index? 4 channel with
  | none => refuse s .range
  | some c => accept (stopClock e e c s)

/-- CLOCK_SET (R121). -/
def clockSetOp (e : Time) (channel ms : Nat) (s : State) : Reply :=
  match index? 4 channel with
  | none => refuse s .range
  | some c =>
    let k := s.clocks[c]
    accept (s.setClock c
      { k with value := (s.clockCfg c).clamp (ms * Config.ticksPerMs : Nat), correction := 0, ref := effective e k,
               state := if k.state = .expired then .stopped else k.state })

/-- A channel adjusted to value `v` at `te` (R122). -/
def adjusted (cfg : ClockCfg) (te : Time) (v : Nat) (k : Clock) : Clock :=
  match k.state with
  | .running => { k with value := v, ref := if v = cfg.stopAt then te else k.ref }
  | .stopped => { k with value := v, ref := te }
  | .expired => { k with value := v, ref := te, state := if v = cfg.stopAt then .expired else .stopped }

/-- CLOCK_ADJUST by a signed amount of milliseconds (R122). -/
def clockAdjustOp (e : Time) (channel : Nat) (ms : Int) (s : State) : Reply :=
  match index? 4 channel with
  | none => refuse s .range
  | some c =>
    let k := s.clocks[c]
    let cfg := s.clockCfg c
    accept (s.setClock c (adjusted cfg (effective e k) (cfg.clamp ((k.value : Int) + ms * Config.ticksPerMs)) k))

/-- CLOCK_PRESET (R123). -/
def clockPresetOp (e : Time) (channel : Nat) (s : State) : Reply :=
  match index? 4 channel with
  | none => refuse s .range
  | some c =>
    let k := s.clocks[c]
    let cfg := s.clockCfg c
    accept (s.setClock c { k with value := if cfg.direction = .down then cfg.period else 0, state := .stopped,
                                  correction := 0, ref := effective e k })

/-- CLOCK_REPORT (R114). DESIGN CHOICE: RANGE is tested before MODE (notes/assumptions/35.md). -/
def clockReportOp (t : Time) (channel ms running : Nat) (s : State) : Reply :=
  match index? 4 channel with
  | none => refuse s .range
  | some c =>
    if 6000000 < ms ∨ 1 < running then refuse s .range
    else if (s.clockCfg c).console = false then refuse s .mode
    else accept (s.setClock c { s.clocks[c] with console := some ⟨ms, running = 1, t⟩ })

end Sys2Proof.Machine
end

