-- ==== Sys2Proof/Machine/ScoreUnit.lean ====
section
/-! DEFINITION. The score record (sections 7.1 and 7.2). Panels are drawn in Machine/Pictures.lean. -/

namespace Sys2Proof.Machine

/-- The field codes of PERIOD and POSSESSION (R130). -/
def fieldPeriod : Fin 16 := 2
def fieldPossession : Fin 16 := 7

/-- The upper end of a field's range, POSSESSION by its code (R130). -/
def fieldTop (f : Fin 16) : Nat :=
  if f.val ≤ 1 then 999 else if f.val ≤ 4 then 99 else if f.val ≤ 6 then 9 else if f.val = 7 then 2 else 9999

/-- Store a value in a field at `t`; a change sends SCORE_CHANGED, and for PERIOD then PERIOD_CHANGED (R133). -/
def storeField (t : Time) (f : Fin 16) (v : Nat) (s : State) : State :=
  let old := s.score.fields[f]
  let s1 := { s with score.fields := s.score.fields.set f v }
  if v = old then s1
  else
    let s2 := raiseTrigger t (.scoreChanged f old v) s1
    if f = fieldPeriod then raiseTrigger t (.periodChanged old v) s2 else s2

/-- Store a value brought into a numeric field's range, and report CLAMPED when that changed it (R131, R132). -/
def storeClamped (t : Time) (f : Fin 16) (v : Int) (s : State) : Reply :=
  let stored := (max 0 (min (fieldTop f : Int) v)).toNat
  ⟨storeField t f stored s, if (stored : Int) = v then none else some .clamped⟩

/-- SCORE_SET (R131). -/
def scoreSetOp (t : Time) (field : Nat) (value : Int) (s : State) : Reply :=
  match index? 16 field with
  | none => refuse s .badField
  | some f =>
    if f = fieldPossession then
      if value < 0 ∨ 2 < value then refuse s .range else accept (storeField t f value.toNat s)
    else storeClamped t f value s

/-- SCORE_ADD (R132). DESIGN CHOICE: BAD_FIELD is tested before RANGE (notes/assumptions/35.md). -/
def scoreAddOp (t : Time) (field : Nat) (delta : Int) (s : State) : Reply :=
  match index? 16 field with
  | none => refuse s .badField
  | some f =>
    if f = fieldPossession then refuse s .badField
    else if delta < -999 ∨ 999 < delta then refuse s .range
    else storeClamped t f ((s.score.fields[f] : Int) + delta) s

end Sys2Proof.Machine
end

