-- ==== Sys2Proof/Machine/Sponsors.lean ====
section
/-! DEFINITION. The sponsor scheduler (chapter 8): accrual, commits, dwell, forced ends, selection, pins, and the commands
on contracts and the settlement log. -/

namespace Sys2Proof.Machine

/-- The state with accrual record `i` replaced. -/
def State.setAccrual (s : State) (i : Fin 64) (a : Accrual) : State :=
  { s with sponsor.accruals := s.sponsor.accruals.set i a }

/-- The state with lane record `l` replaced. -/
def State.setLane (s : State) (l : Fin 8) (x : SponsorLane) : State := { s with sponsor.lanes := s.sponsor.lanes.set l x }

/-! ### Stage 1: accrual (section 8.4) -/

/-- V_lane: the visible tiles, in the frame counted, of the zones whose source was lane `l` (R57, R152). -/
def laneTiles (counts : Vector ZoneCount 16) (l : Fin 8) : Nat :=
  ((counts.toList.filter fun z => z.source = .sponsor l).map (·.tiles)).sum

/-- The lanes whose current contract is `i`. -/
def lanesShowing (s : State) (i : Fin 64) : List (Fin 8) :=
  (List.finRange 8).filter fun l => s.sponsor.lanes[l].contract = some i

/-- The tile-ticks contract `i` earns for a frame of `dt` ticks, over all the lanes that showed it (R152). -/
def earned (s : State) (dt : Nat) (i : Fin 64) : Nat :=
  ((lanesShowing s i).map fun l => laneTiles s.comp.visible l * dt).sum

/-- An accrual record paid `ticks` tile-ticks (R152). -/
def Accrual.paid (a : Accrual) (ticks : Nat) : Accrual :=
  { a with accrued := min Config.accountTop (a.accrued + (a.remainder + ticks) / Config.ticksPerMs),
           remainder := (a.remainder + ticks) % Config.ticksPerMs }

/-- An accrual record's wall elapsed and met flag after a frame of `dt` ticks (R153). -/
def Accrual.timed (a : Accrual) (dt target : Nat) : Accrual :=
  match a.state with
  | .vacant => a
  | .active => { a with wall := min Config.accountTop (a.wall + dt), met := a.met || target ≤ a.accrued }
  | .paused => { a with met := a.met || target ≤ a.accrued }

/-- Stage 1 for one contract. A VACANT contract accrues nothing (R146), and one no lane showed keeps A and remainder. -/
def accrueOne (s : State) (dt : Nat) (i : Fin 64) (a : Accrual) : Accrual :=
  let a1 := if a.state = .vacant ∨ lanesShowing s i = [] then a else a.paid (earned s dt i)
  a1.timed dt (s.contract i).target

/-- Stage 1 (R152, R153): the exposure of the frame just ended, of length `dt`. -/
def accrue (dt : Nat) (s : State) : State :=
  { s with sponsor.accruals := vmapIdx s.sponsor.accruals (accrueOne s dt) }

/-! ### Stage 2: commits (R147 to R150) -/

/-- A creative or fill asset field holds an asset id or NONE. -/
def assetFieldValid (n : Nat) : Bool := n ≤ 511 ∨ n = 0xFFFF

/-- Entry `i` of a CONTRACTS staging copy is valid (R147). -/
def contractEntryValid (bs : List Byte) (i : Fin 64) : Bool :=
  let e := entryOf bs 32 i
  let key := beAt e 0 4
  byteAt e 16 ≤ 1 ∧ (byteAt e 16 = 0 → byteAt e 17 ≤ 3) ∧ byteAt e 21 ≤ 1 ∧
    (List.range 4).all (fun k => assetFieldValid (beAt e (22 + 2 * k) 2)) ∧
    (key = 0 ∨ (List.finRange 64).all fun j => decide (i ≤ j) || beAt (entryOf bs 32 j) 0 4 ≠ key)

/-- An accrual record after a CONTRACTS commit (R148). -/
def contractCommitted (oldKey : Nat) (new : ContractCfg) (a : Accrual) : Accrual :=
  if new.key = 0 then Accrual.vacant
  else if oldKey = new.key then { a with met := new.target ≤ a.accrued }
  else { Accrual.vacant with state := .active }

/-- Every accrual record after the active CONTRACTS table has changed from `old` (R148). -/
def contractsCommitted (old : List Byte) (s : State) : State :=
  { s with sponsor.accruals := vmapIdx s.sponsor.accruals fun i a => contractCommitted (contractAt old i).key (s.contract i) a }

/-- Entry `l` of a LANES staging copy is valid (R150). -/
def laneEntryValid (bs : List Byte) (l : Fin 8) : Bool :=
  let e := entryOf bs 40 l
  byteAt e 0 ≤ 32 ∧ ((e.drop 1).take (byteAt e 0)).all (fun b => decide (b.toNat ≤ 63)) ∧ assetFieldValid (beAt e 35 2)

/-- Every lane record after the active LANES table has changed from `old`: a changed list returns the cursor to START
(R150). -/
def lanesCommitted (old : List Byte) (s : State) : State :=
  { s with sponsor.lanes := vmapIdx s.sponsor.lanes fun l x =>
      if (laneCfgAt old l).list = (s.laneCfg l).list then x else { x with cursor := none } }

/-! ### Stages 3 and 4: dwell and forced ends (R157, R158) -/

/-- Stage 3: the frames left of each lane, and the lanes whose dwell has ended (R157). -/
def dwellCount (s : State) : State × List (Fin 8) :=
  if s.msgs.takeover then (s, [])
  else
    let s1 := { s with sponsor.lanes := vmapIdx s.sponsor.lanes fun _ x => { x with framesLeft := x.framesLeft - 1 } }
    (s1, (List.finRange 8).filter fun l => s1.sponsor.lanes[l].framesLeft = 0)

/-- A lane that shows contract `c` meets one of the conditions that end its dwell; `ended` are the lanes whose dwell has
ended at this frame start so far (R158). -/
def forcedEnd (s : State) (ended : List (Fin 8)) (l : Fin 8) (c : Fin 64) : Bool :=
  let cfg := s.contract c
  let a := s.sponsor.accruals[c]
  cfg.key ≠ s.sponsor.lanes[l].key ∨ a.state = .paused ∨ (cfg.capped ∧ a.met) ∨
    (cfg.category ≠ 0 ∧ (List.finRange 8).any fun k =>
      k < l && k ∉ ended && (s.sponsor.lanes[k].contract.any fun d => (s.contract d).category = cfg.category))

/-- Stage 4 for lane `l` (R158). -/
def forceLane (x : State × List (Fin 8)) (l : Fin 8) : State × List (Fin 8) :=
  match x.1.sponsor.lanes[l].contract with
  | none => x
  | some c =>
    if forcedEnd x.1 x.2 l c then
      (x.1.setLane l { x.1.sponsor.lanes[l] with framesLeft := 0 }, if l ∈ x.2 then x.2 else x.2 ++ [l])
    else x

/-- Stage 4 (R158). -/
def forceEnds (x : State × List (Fin 8)) : State × List (Fin 8) := (List.finRange 8).foldl forceLane x

/-! ### Stage 5: selection (sections 8.5 and 8.6) -/

/-- The first selectable creative slot after the cursor, cycling and ending with the cursor's own (R154). -/
def nextCreative (s : State) (c : Fin 64) : Option (Fin 4 × AssetId) :=
  let cur := s.sponsor.accruals[c].creative
  [cur + 1, cur + 2, cur + 3, cur].findSome? fun k =>
    ((s.contract c).creatives[k]).bind fun id => if s.assets.recs[id].showable then some (k, id) else none

/-- Contract `c` is eligible for lane `l` now (R155). -/
def eligible (s : State) (l : Fin 8) (c : Fin 64) : Bool :=
  let cfg := s.contract c
  let a := s.sponsor.accruals[c]
  a.state = .active ∧ (nextCreative s c).isSome ∧ ¬ (cfg.capped ∧ a.met) ∧
    (cfg.category = 0 ∨ (List.finRange 8).all fun k =>
      k = l || !(s.sponsor.lanes[k].contract.any fun d => (s.contract d).category = cfg.category))

/-- The progress P of a contract's period, 0 to 65,536 (R156). DEDUCED: D and the direction are those of the active CLOCKS table, at
its commit's own frame start too (R151, R156), though R128 lets D apply from the next frame start (notes/assumptions/46.md). -/
def progress (s : State) (c : Fin 64) : Nat :=
  let cfg := s.contract c
  if cfg.wall then
    let period := cfg.wallPeriodS * Config.ticksPerSecond
    if period = 0 then 0 else 65536 * min s.sponsor.accruals[c].wall period / period
  else
    let ch := Fin.ofNat 4 cfg.channel
    let k := s.clockCfg ch
    let v := s.clocks[ch].frame.value
    if k.period = 0 then 0
    else min 65536 (65536 * (if k.direction = .down then k.period - v else v) / k.period)

/-- The expected exposure X in tile-ms (R156). -/
def expected (s : State) (c : Fin 64) : Nat := (s.contract c).target * progress s c / 65536

/-- The deficit X − A (R156). -/
def deficit (s : State) (c : Fin 64) : Int := (expected s c : Int) - s.sponsor.accruals[c].accrued

/-- The contract is behind its pace (R156). -/
def behind (s : State) (c : Fin 64) : Bool := ((s.contract c).slack : Int) < deficit s c

/-- Contract `c` is served before contract `d`: a larger deficit, or an equal one and a lower index (R159). -/
def servedBefore (s : State) (c d : Fin 64) : Bool := deficit s d < deficit s c ∨ (deficit s c = deficit s d ∧ c < d)

/-- The contract served first among some, if there are any (R159). -/
def mostBehind (s : State) : List (Fin 64) → Option (Fin 64)
  | [] => none
  | c :: cs => some (cs.foldl (fun m d => if servedBefore s d m then d else m) c)

/-- The list positions in the order rotation looks at them (R159). -/
def rotationOrder (len : Nat) (cursor : Option Nat) : List Nat :=
  let from_ := match cursor with | none => 0 | some k => k + 1
  (List.range len).map fun j => (from_ + j) % len

/-- Lane `l`'s choice: a contract with the list cursor after it, or FILL (R159). -/
def laneChoice (s : State) (l : Fin 8) : Option (Fin 64 × Option Nat) :=
  let list := (s.laneCfg l).list
  let cursor := s.sponsor.lanes[l].cursor
  match mostBehind s (list.filter fun c => eligible s l c && behind s c) with
  | some c => some (c, cursor)
  | none =>
    (rotationOrder list.length cursor).findSome? fun k =>
      (list[k]?).bind fun c => if eligible s l c then some (c, some k) else none

/-- Release a pin, if one is held. -/
def releaseHeld (p : Option AssetId) (s : State) : State :=
  match p with
  | none => s
  | some id => releasePin id s

/-- Lane `l` takes contract `c`, creative slot `k`, asset `id` (R160). -/
def takeContract (l : Fin 8) (c : Fin 64) (k : Fin 4) (id : AssetId) (cursor : Option Nat) (s : State) : State :=
  let x := s.sponsor.lanes[l]
  let cfg := s.contract c
  let s1 := s.setAccrual c { s.sponsor.accruals[c] with creative := k }
  let s2 := s1.setLane l
    { contract := some c, key := cfg.key, creative := some id,
      framesLeft := if 0 < cfg.dwell then cfg.dwell else (s.laneCfg l).frames, cursor := cursor, pinned := some id }
  releaseHeld x.pinned (takePin id s2)

/-- Lane `l` takes FILL (R160). -/
def takeFill (l : Fin 8) (s : State) : State :=
  s.setLane l { s.sponsor.lanes[l] with contract := none, key := 0, creative := none, framesLeft := (s.laneCfg l).frames }

/-- Stage 5 for lane `l` (R159, R160). -/
def serveLane (s : State) (l : Fin 8) : State :=
  match laneChoice s l with
  | none => takeFill l s
  | some (c, cursor) =>
    match nextCreative s c with
    | none => takeFill l s
    | some (k, id) => takeContract l c k id cursor s

/-- The lanes to be served give up their current contracts (R159). -/
def giveUp (served : List (Fin 8)) (s : State) : State :=
  { s with sponsor.lanes := vmapIdx s.sponsor.lanes fun l x => if l ∈ served then { x with contract := none } else x }

/-- Stage 5 (R159): the lanes in `served` choose, in lane number order. -/
def selectLanes (served : List (Fin 8)) (s : State) : State :=
  ((List.finRange 8).filter fun l => l ∈ served).foldl serveLane (giveUp served s)

/-! ### Stage 6: pins (R161) -/

/-- Stage 6 for lane `l` (R161). -/
def settleFill (s : State) (l : Fin 8) : State :=
  let x := s.sponsor.lanes[l]
  if x.contract.isSome then s
  else
    let fill := (s.laneCfg l).fill
    let s1 := if x.pinned.isSome ∧ x.pinned ≠ fill then releaseHeld x.pinned (s.setLane l { x with pinned := none }) else s
    let x1 := s1.sponsor.lanes[l]
    match x1.pinned, fill with
    | none, some id =>
      if s1.assets.recs[id].showable then takePin id (s1.setLane l { x1 with pinned := some id }) else s1
    | _, _ => s1

/-- Stages 3 to 6 (R151). -/
def sponsorStages (s : State) : State :=
  let x := forceEnds (dwellCount s)
  (List.finRange 8).foldl settleFill (selectLanes x.2 x.1)

/-- The asset whose picture lane `l` offers: its current creative, or the fill asset it holds a pin on (R160). -/
def SponsorLane.picture (x : SponsorLane) : Option AssetId := if x.contract.isSome then x.creative else x.pinned

/-! ### Commands (section 8.7) -/

/-- CONTRACT_PAUSE (R162). -/
def contractPauseOp (contract : Nat) (s : State) : Reply :=
  match index? 64 contract with
  | none => refuse s .range
  | some i =>
    match s.sponsor.accruals[i].state with
    | .vacant => refuse s .vacant
    | .active => accept (s.setAccrual i { s.sponsor.accruals[i] with state := .paused })
    | .paused => accept s

/-- CONTRACT_RESUME (R162). -/
def contractResumeOp (contract : Nat) (s : State) : Reply :=
  match index? 64 contract with
  | none => refuse s .range
  | some i =>
    match s.sponsor.accruals[i].state with
    | .vacant => refuse s .vacant
    | .paused => accept (s.setAccrual i { s.sponsor.accruals[i] with state := .active })
    | .active => accept s

/-- The contracts a period close settles: those ACTIVE or PAUSED, in index order (R163). -/
def closing (s : State) : List (Fin 64) := (List.finRange 64).filter fun i => s.sponsor.accruals[i].state ≠ .vacant

/-- The settlement record of contract `i`, with the close number in force (R164). -/
def settlementOf (s : State) (i : Fin 64) : Settlement :=
  let a := s.sponsor.accruals[i]
  { contract := i, met := a.met, key := (s.contract i).key, period := a.period, target := (s.contract i).target,
    accrued := a.accrued, close := s.sponsor.closeNumber.toNat }

/-- An accrual record at the start of a new period (R163). -/
def Accrual.nextPeriod (a : Accrual) : Accrual :=
  { a with accrued := 0, remainder := 0, wall := 0, met := false, period := (a.period + 1) % 65536 }

/-- The close of contract `i`'s period (R163, R164). -/
def closeContract (s : State) (i : Fin 64) : State :=
  let r := settlementOf s i
  let s1 := { s with sponsor.log := s.sponsor.log ++ [r] }
  let s2 := raiseEvent .settlementAdded i.val
    (be 1 i.val ++ be 4 r.close ++ be 2 r.period ++ be 1 (if r.met then 1 else 0) ++ be 6 r.accrued) s1
  s2.setAccrual i s2.sponsor.accruals[i].nextPeriod

/-- PERIOD_CLOSE (R163). -/
def periodCloseOp (s : State) : Reply :=
  if Config.settlementLogSize - (closing s).length < s.sponsor.log.length then refuse s .full
  else accept ((closing s).foldl closeContract { s with sponsor.closeNumber := s.sponsor.closeNumber + 1 })

/-- SETTLE_REMOVE (R165). -/
def settleRemoveOp (n : Nat) (s : State) : Reply := accept { s with sponsor.log := s.sponsor.log.drop n }

end Sys2Proof.Machine
end

