-- ==== Sys2Proof/Machine/MessageUnit.lean ====
section
/-! DEFINITION. The message unit (chapter 9): the queue and its commands, the stages of a frame start, lanes and passes. -/

namespace Sys2Proof.Machine

/-! ### Zone windows, which give the lanes their sizes (R48, R53) -/

/-- The length of the run of ones from position 0 upward, in the lowest `n` positions (R48). -/
def lowRun (mask : Nat → Bool) : Nat → Nat
  | 0 => 0
  | n + 1 => if lowRun mask n = n ∧ mask n then n + 1 else lowRun mask n

/-- The length k of a column mask's low field (R48). -/
def colField (z : Zone) : Nat := lowRun z.colMask.getLsbD 9

/-- The length j of a row mask's low field (R48). -/
def rowField (z : Zone) : Nat := lowRun z.rowMask.getLsbD 8

/-- The window of a zone in pixels: its width and height (R48). -/
def zoneWindow (z : Zone) (wTiles hTiles : Nat) : Nat × Nat :=
  (8 * min (2 ^ colField z) wTiles, 8 * min (2 ^ rowField z) hTiles)

/-- The size of message lane `m` (R53). -/
def State.laneSize (s : State) (m : Fin 4) : Nat × Nat :=
  match s.zones.toList.find? fun z => z.enable && z.source = .message m with
  | none => (0, 0)
  | some z => zoneWindow z s.device.wTiles s.device.hTiles

/-- The canvas in pixels. -/
def State.canvasSize (s : State) : Nat × Nat := (8 * s.device.wTiles, 8 * s.device.hTiles)

/-! ### The queue (section 9.1) -/

def MessageClass.rank : MessageClass → Nat
  | .emergency => 0 | .lead => 1 | .standard => 2

def DoneReason.code : DoneReason → Nat
  | .complete => 0 | .expired => 1 | .withdrawn => 2 | .cleared => 3 | .evicted => 4 | .unattended => 5

/-- The lane an entry shows in: 0 to 3, 4 for the emergency lane, none when it is not showing (R167, R178). -/
def Messages.showingIn (m : Messages) (tag : Nat) : Option Nat :=
  if m.emergency.current = some tag then some 4
  else ((List.finRange 4).find? fun l => m.lanes[l].current = some tag).map (·.val)

/-- The entry with a tag. -/
def Messages.entry (m : Messages) (tag : Nat) : Option Message := m.queue.find? fun e => e.tag = tag

/-- The queue with an entry placed at the back of its class (R167). -/
def placeBack (e : Message) (q : List Message) : List Message :=
  q.filter (fun x => decide (x.cls.rank ≤ e.cls.rank)) ++ [e] ++ q.filter (fun x => decide (e.cls.rank < x.cls.rank))

/-- The queue without the entry of a tag. -/
def withoutTag (tag : Nat) (q : List Message) : List Message := q.filter fun x => x.tag ≠ tag

/-- A lane made idle if it shows the entry of a tag. -/
def MessageLane.idleIf (tag : Nat) (l : MessageLane) : MessageLane :=
  if l.current = some tag then { l with current := none } else l

/-- Remove an entry at instant `t`: it leaves the queue and its lane, its pin is released, and the MESSAGE_DONE event and
trigger are raised (R167, R178). -/
def removeEntry (t : Time) (e : Message) (why : DoneReason) (s : State) : State :=
  let lane := (s.msgs.showingIn e.tag).getD 255
  let s1 := { s with msgs :=
    { s.msgs with queue := withoutTag e.tag s.msgs.queue, lanes := vmapIdx s.msgs.lanes fun _ l => l.idleIf e.tag,
                  emergency := s.msgs.emergency.idleIf e.tag } }
  let s2 := releasePin e.strip s1
  let s3 := raiseEvent .messageDone e.tag
    (be 2 e.tag ++ be 1 e.cls.rank ++ be 1 why.code ++ be 1 lane ++ be 1 e.passes) s2
  raiseTrigger t (.messageDone e.tag why) s3

/-- An entry asked to leave at `t`: at once when it is not showing; otherwise its leaving flag is set, unless it is set
already (R170, R171). DESIGN CHOICE: for the unattended timer too a flag that is set stays as it is; R181 does not say
(notes/assumptions/41.md). -/
def dismiss (t : Time) (why : DoneReason) (s : State) (e : Message) : State :=
  if (s.msgs.showingIn e.tag).isNone then removeEntry t e why s
  else { s with msgs.queue := s.msgs.queue.map fun x =>
      if x.tag = e.tag ∧ x.leaving = none then { x with leaving := some why } else x }

/-- Every entry of a class asked to leave at `t` (R171, R181). DESIGN CHOICE: in queue order, which is the order of their
MESSAGE_DONE events and triggers; the spec gives none (notes/assumptions/30.md). -/
def dismissClass (t : Time) (why : DoneReason) (c : MessageClass) (s : State) : State :=
  (s.msgs.queue.filter fun e => e.cls = c).foldl (dismiss t why) s

/-- The entry a POST of class `c` removes from a full queue: the last in queue order that is not showing, of a class it may
push out (R169). -/
def evictee (c : MessageClass) (m : Messages) : Option Message :=
  m.queue.reverse.find? fun e =>
    (m.showingIn e.tag).isNone &&
      match c with
      | .standard => false
      | .lead => e.cls = .standard
      | .emergency => e.cls ≠ .emergency

/-- A POST's fields lie in their ranges, with the class and strip they name (R168, test 1). -/
def PostFields.checked (p : PostFields) : Option (MessageClass × AssetId) :=
  match class? p.cls, assetId? p.strip with
  | some c, some a => if 1 < p.mode ∨ 15 < p.repeats ∨ (c ≠ .emergency ∧ 3 < p.lane) then none else some (c, a)
  | _, _ => none

/-- The entry a POST places (R168). -/
def newEntry (p : PostFields) (c : MessageClass) (a : AssetId) : Message :=
  { tag := p.tag, cls := c, strip := a, lane := p.lane, mode := if p.mode = 0 then .crawl else .hold,
    pace := if p.mode = 0 then clampNat 1 8191 p.pace else max 1 p.pace, repeatsLeft := p.repeats, lifetime := p.lifetime,
    age := 0, passes := 0, leaving := none }

/-- Place a new entry with its pin (R168). -/
def placeEntry (e : Message) (s : State) : State :=
  let s1 := takePin e.strip s
  { s1 with msgs.queue := placeBack e s1.msgs.queue }

/-- POST (R168, R169). -/
def postOp (t : Time) (p : PostFields) (s : State) : Reply :=
  match p.checked with
  | none => refuse s .range
  | some (c, a) =>
    if (s.msgs.entry p.tag).isSome then refuse s .duplicate
    else if s.assets.recs[a].postable = false then refuse s .notReady
    else if s.msgs.queue.length < Config.messageQueueSize then accept (placeEntry (newEntry p c a) s)
    else match evictee c s.msgs with
      | none => refuse s .full
      | some e => accept (placeEntry (newEntry p c a) (removeEntry t e .evicted s))

/-- POST_TEMPLATE (R183). -/
def postTemplateOp (t : Time) (template : Nat) (s : State) : Reply :=
  if 7 < template then refuse s .range
  else if (s.template template).defined = false then refuse s .notDefined
  else postOp t (s.template template).fields s

/-- WITHDRAW (R170). -/
def withdrawOp (t : Time) (tag : Nat) (s : State) : Reply :=
  match s.msgs.entry tag with
  | none => refuse s .notFound
  | some e => accept (dismiss t .withdrawn s e)

/-- CLEAR_CLASS (R171). -/
def clearClassOp (t : Time) (cls : Nat) (s : State) : Reply :=
  match class? cls with
  | none => refuse s .range
  | some c => accept (dismissClass t .cleared c s)

/-- The queue emptied by a control reset: every pin is released and every lane becomes idle, without events or triggers
(R184). -/
def emptyQueue (s : State) : State :=
  let s1 := s.msgs.queue.foldl (fun s e => releasePin e.strip s) s
  { s1 with msgs :=
    { s1.msgs with queue := [], lanes := vmapIdx s1.msgs.lanes fun _ l => { l with current := none },
                   emergency := { s1.msgs.emergency with current := none } } }

/-! ### The stages of a frame start (section 9.2) -/

/-- Stage 2: departures (R173). DESIGN CHOICE: several entries leave in queue order, which is the order of their MESSAGE_DONE
events and triggers; the spec gives none (notes/assumptions/30.md). -/
def departures (t : Time) (s : State) : State :=
  s.msgs.queue.foldl (fun s e => match e.leaving with | none => s | some why => removeEntry t e why s) s

/-- An entry one output frame start older (R172). -/
def Message.older (e : Message) : Message := { e with age := min 65535 (e.age + 1) }

/-- Stage 3: ages rise, and an entry whose age reaches its lifetime is removed (R172). DESIGN CHOICE: several entries expire in
queue order, which is the order of their MESSAGE_DONE events and triggers; the spec gives none (notes/assumptions/30.md). -/
def lifetimes (t : Time) (s : State) : State :=
  let s1 := { s with msgs.queue := s.msgs.queue.map Message.older }
  s1.msgs.queue.foldl (fun s e => if 0 < e.lifetime ∧ e.age = e.lifetime then removeEntry t e .expired s else s) s1

/-- A lane record by number: 0 to 3, and 4 for the emergency lane. -/
def Messages.lane (m : Messages) (n : Fin 5) : MessageLane := if h : n.val < 4 then m.lanes[n.val] else m.emergency

/-- The message unit with lane record `n` replaced. -/
def Messages.setLane (m : Messages) (n : Fin 5) (l : MessageLane) : Messages :=
  if h : n.val < 4 then { m with lanes := m.lanes.set n.val l } else { m with emergency := l }

/-- A pass of entry `e` in lane `n` ends at `t` (R178). -/
def endPass (t : Time) (n : Fin 5) (e : Message) (s : State) : State :=
  let e1 := { e with passes := min 255 (e.passes + 1), repeatsLeft := e.repeatsLeft - 1 }
  if e.repeatsLeft = 1 then removeEntry t e1 .complete s
  else { s with msgs := { (s.msgs.setLane n { s.msgs.lane n with current := none }) with
      queue := placeBack e1 (withoutTag e.tag s.msgs.queue) } }

/-- A lane advances its pass at `t`, if it has a current entry (R176, R177). -/
def advanceLane (t : Time) (s : State) (n : Fin 5) : State :=
  let l := s.msgs.lane n
  match l.current.bind s.msgs.entry with
  | none => s
  | some e =>
    match e.mode with
    | .crawl =>
      let x := l.x - e.pace
      let s1 := { s with msgs := s.msgs.setLane n { l with x := x } }
      if x ≤ -((s.assets.recs[e.strip].width * 256 : Nat) : Int) then endPass t n e s1 else s1
    | .hold =>
      let k := l.framesLeft - 1
      let s1 := { s with msgs := s.msgs.setLane n { l with framesLeft := k } }
      if k = 0 then endPass t n e s1 else s1

/-- Stage 4: the emergency lane advances its pass. -/
def emergencyPass (t : Time) (s : State) : State := advanceLane t s 4

/-- Stage 5: the takeover flag (R180). -/
def setTakeover (s : State) : State := { s with msgs.takeover := s.msgs.queue.any fun e => e.cls = .emergency }

/-- Stage 6: the message lanes advance their passes when the takeover flag is clear (R173). DESIGN CHOICE: lanes 0 to 3 in
number order, which is the order in which entries whose passes end at one frame start go to the back of their class and raise
their MESSAGE_DONE events and triggers; the spec gives none (notes/assumptions/30.md). -/
def messagePasses (t : Time) (s : State) : State :=
  if s.msgs.takeover then s else [0, 1, 2, 3].foldl (advanceLane t) s

/-- An entry is addressed to lane `n` (R174). -/
def addressed (n : Fin 5) (e : Message) : Bool :=
  if n = 4 then e.cls = .emergency else e.cls ≠ .emergency ∧ e.lane = n.val

/-- The pass size of lane `n` for a pass that begins now (R175). -/
def State.passSize (s : State) (n : Fin 5) : Nat × Nat := if h : n.val < 4 then s.laneSize ⟨n.val, h⟩ else s.canvasSize

/-- Lane `n` may select (R174, R175). -/
def maySelect (s : State) (n : Fin 5) : Bool :=
  if n = 4 then s.msgs.takeover else s.msgs.takeover = false ∧ 1 ≤ (s.passSize n).1 ∧ 1 ≤ (s.passSize n).2

/-- A lane at the beginning of a pass of entry `e` at pass size `size` (R175, R176, R177). -/
def MessageLane.beginPass (l : MessageLane) (e : Message) (size : Nat × Nat) : MessageLane :=
  { current := some e.tag, passWidth := size.1, passHeight := size.2,
    x := if e.mode = .crawl then ((size.1 * 256 : Nat) : Int) else l.x,
    framesLeft := if e.mode = .crawl then l.framesLeft else e.pace }

/-- Stage 7 for lane `n`: an idle lane chooses its entry and begins a pass (R174, R176, R177). -/
def selectEntry (s : State) (n : Fin 5) : State :=
  let l := s.msgs.lane n
  if l.current.isSome ∨ maySelect s n = false then s
  else
    match s.msgs.queue.find? fun e => addressed n e && e.leaving.isNone && (s.msgs.showingIn e.tag).isNone with
    | none => s
    | some e =>
      { s with msgs := s.msgs.setLane n (l.beginPass e (s.passSize n)) }

/-- Stage 7. -/
def selectEntries (s : State) : State := [0, 1, 2, 3, 4].foldl selectEntry s

/-- Stages 2 to 7 (R173). -/
def messageStages (t : Time) (s : State) : State :=
  selectEntries (messagePasses t (setTakeover (emergencyPass t (lifetimes t (departures t s)))))

/-! ### Lane pictures (R179) -/

/-- The picture lane `n` offers for the frame (R179). -/
def State.lanePicture (s : State) (n : Fin 5) : LanePicture :=
  let l := s.msgs.lane n
  let size := s.passSize n
  { width := size.1, height := size.2,
    strip := (l.current.bind s.msgs.entry).map fun e =>
      { id := e.strip, x := if e.mode = .crawl then l.x / 256 else 0,
        y := ((l.passHeight : Int) - s.assets.recs[e.strip].height) / 2 } }

/-! ### The TEMPLATES table (R182) -/

/-- Entry `i` of a TEMPLATES staging copy is valid (R182). -/
def templateEntryValid (bs : List Byte) (i : Nat) : Bool :=
  let e := entryOf bs 16 i
  byteAt e 0 ≤ 1 ∧ (i = 0 ∨ byteAt e 0 = 0 ∨ (templateOf e).fields.checked.isSome)

end Sys2Proof.Machine
end

