-- ==== Sys2Proof/Machine/Cues.lean ====
section
/-! DEFINITION. The cue unit (chapter 10): matching and firing, the actions of cues, the contact lines, HORN, CUE_ARM and
CUE_DISARM, and the CUES and CONTACTS tables. -/

namespace Sys2Proof.Machine

/-- The KIND values of the commands (R23). -/
inductive Kind where
  | resume | controlReset | statusRequest | load | readTable | layoutSelect | assetOpen | assetData | assetClose | assetDrop
  | recordStart | recordStop | markIn | markOut | markClear | cue | play | pause | continuePlay | step | playerStop
  | clockStart | clockStop | clockSet | clockAdjust | clockPreset | clockReport | scoreSet | scoreAdd
  | contractPause | contractResume | periodClose | settleRemove | post | withdraw | clearClass | horn | cueArm | cueDisarm
deriving DecidableEq, Repr

def Kind.code : Kind → Nat
  | .resume => 1 | .controlReset => 2 | .statusRequest => 3 | .load => 4 | .readTable => 5 | .layoutSelect => 6
  | .assetOpen => 7 | .assetData => 8 | .assetClose => 9 | .assetDrop => 10 | .recordStart => 11 | .recordStop => 12
  | .markIn => 13 | .markOut => 14 | .markClear => 15 | .cue => 16 | .play => 17 | .pause => 18 | .continuePlay => 19
  | .step => 20 | .playerStop => 21 | .clockStart => 22 | .clockStop => 23 | .clockSet => 24 | .clockAdjust => 25
  | .clockPreset => 26 | .clockReport => 27 | .scoreSet => 28 | .scoreAdd => 29 | .contractPause => 30
  | .contractResume => 31 | .periodClose => 32 | .settleRemove => 33 | .post => 34 | .withdraw => 35 | .clearClass => 36
  | .horn => 37 | .cueArm => 38 | .cueDisarm => 39

/-! ### Requests that commands and cue actions share -/

/-- LAYOUT_SELECT, and the cue action LAYOUT (R59). -/
def layoutSelectOp (layout : Nat) (s : State) : Reply :=
  match index? 4 layout with
  | none => refuse s .range
  | some n => accept { s with comp.pendingLayout := some n }

/-- HORN, and the cue action HORN (R188). -/
def hornOp (t : Time) (ms : Nat) (s : State) : Reply :=
  if Config.maxHornMs < ms then refuse s .range else accept (hornRequest t ⟨t, after t (ms * Config.ticksPerMs), none⟩ s)

/-! ### Matching (R190) -/

/-- A clock's display has reached or passed `value` in the counting direction (R190). -/
def displayCrosses (d : Direction) (before afterTenths value : Nat) : Bool :=
  if d = .down then value < before ∧ afterTenths ≤ value else before < value ∧ value ≤ afterTenths

/-- A trigger matches a cue (R190). -/
def triggerMatches (c : CueCfg) (e : TriggerEvent) : Bool :=
  match e with
  | .clockExpired ch _ _ => c.trigger = 0 ∧ c.index = ch.val
  | .clockDisplay ch d _ before afterTenths => c.trigger = 1 ∧ c.index = ch.val ∧ displayCrosses d before afterTenths c.value
  | .scoreChanged f _ _ => c.trigger = 2 ∧ c.index = f.val
  | .periodChanged _ _ => c.trigger = 3
  | .playerEnded => c.trigger = 4
  | .messageDone tag _ => c.trigger = 5 ∧ c.value = tag
  | .contact line rise => c.trigger = 6 ∧ c.index = line.val ∧ (c.value = 2 ∨ c.value = if rise then 0 else 1)
  | .feed i f => c.trigger = 7 ∧ c.index = inputCode i ∧ c.value = f.code
  | .unattended => c.trigger = 8

/-! ### Firing (R191, R192) -/

/-- A 16-bit field as a signed number. -/
def signed16 (n : Nat) : Int := (BitVec.ofNat 16 n).toInt

/-- An action's command: its owner's answer at the trigger's arrival time `t`, and the KIND it is refused under
(R38, R192). -/
def cueAction (t : Time) (c : CueCfg) (s : State) : Reply × Kind :=
  match c.action with
  | 0 => (clockStartOp t c.actionIndex s, .clockStart)
  | 1 => (clockStopOp t c.actionIndex s, .clockStop)
  | 2 => (clockPresetOp t c.actionIndex s, .clockPreset)
  | 3 => (playOp c.actionIndex c.n c.d c.endAction s, .play)
  | 4 => (accept (playerStop s), .playerStop)
  | 5 => (postTemplateOp t c.actionIndex s, .post)
  | 6 => (withdrawOp t c.actionValue s, .withdraw)
  | 7 => (layoutSelectOp c.actionIndex s, .layoutSelect)
  | 8 => (periodCloseOp s, .periodClose)
  | 9 => (hornOp t c.actionValue s, .horn)
  | _ => (scoreAddOp t c.actionIndex (signed16 c.actionValue) s, .scoreAdd)

/-- The state with cue record `i` replaced. -/
def State.setCue (s : State) (i : Fin 32) (r : CueRecord) : State := { s with cues.records := s.cues.records.set i r }

/-- A cue record after its cue has fired in the frame that began at `frame` (R191). -/
def CueRecord.fire (r : CueRecord) (every : Bool) (frame : Time) : CueRecord :=
  { armed := r.armed && every, fires := min 65535 (r.fires + 1), firedFrame := some frame }

/-- The frame start of the output frame that a trigger with arrival time `t` belongs to: the latest at or before `t`. A frame
start scheduled for that very instant is it also while it has not been taken yet (R191). DESIGN CHOICE where a later event of
the same instant cancels or adds a frame start at it (notes/assumptions/31.md). -/
def State.frameOf (s : State) (t : Time) : Time := if frameScheduled t s then t else s.timing.lastFrameStart

/-- Cue `i` fires for trigger `g`: it is armed, it matches, and it has not fired in the trigger's output frame (R191). -/
def cueFires (s : State) (g : Trigger) (i : Fin 32) : Bool :=
  let r := s.cues.records[i]
  r.armed ∧ triggerMatches (s.cueCfg i) g.event ∧ r.firedFrame ≠ some (s.frameOf g.arrival)

/-- One cue and one trigger: the cue fires and its action is delivered, or nothing happens (R191, R192). -/
def fireCue (g : Trigger) (s : State) (i : Fin 32) : State :=
  if cueFires s g i then
    let c := s.cueCfg i
    let s1 := s.setCue i (s.cues.records[i].fire c.every (s.frameOf g.arrival))
    let a := cueAction g.arrival c s1
    a.1.done (.cue i) a.2.code
  else s

/-- One trigger is taken: cues 0 to 31 are looked at in number order (R191). -/
def takeTrigger (g : Trigger) (s : State) : State := (List.finRange 32).foldl (fireCue g) s

/-- Take pending triggers in the order raised, at most `fuel` of them (R191). -/
def takeTriggers : Nat → State → State
  | 0, s => s
  | fuel + 1, s =>
    match s.cues.pendingTriggers with
    | [] => s
    | g :: rest => takeTriggers fuel (takeTrigger g { s with cues.pendingTriggers := rest })

/-- The cue unit takes every pending trigger. The triggers of one command or event have one arrival time, so they belong to one
output frame, in which at most 32 cues fire; an action raises at most two triggers, so at most 64 join those that are pending
at first (R191, notes/assumptions/25.md). That the event's own triggers all wait by then is the model's choice
(notes/assumptions/44.md). -/
def settle (s : State) : State := takeTriggers (s.cues.pendingTriggers.length + 64) s

/-! ### Contact lines (R185, R186) -/

/-- The state with contact line `l` replaced. -/
def State.setLine (s : State) (l : Fin 4) (x : ContactLine) : State := { s with cues.lines := s.cues.lines.set l x }

/-- Line `l` changes level at `t`: a change away from the recognized level starts a candidate, a return discards it
(R185). -/
def lineChange (t : Time) (l : Fin 4) (high : Bool) (s : State) : State :=
  let x := s.cues.lines[l]
  let candidate : Option Candidate :=
    if high = x.recognized then none
    else match x.candidate with
      | some c => some c
      | none => some ⟨high, t, after t ((s.contactCfg l).filterMs * Config.ticksPerMs)⟩
  s.setLine l { x with level := high, candidate := candidate }

/-- An edge of a bound line starts or stops its clock channel, with its edge time; it is recognized at `t` (R186). A start
that finds the channel EXPIRED changes nothing and raises no report (R119). -/
def boundEdge (t : Time) (l : Fin 4) (rise : Bool) (edge : Time) (s : State) : State :=
  let cfg := s.contactCfg l
  match cfg.channel with
  | none => s
  | some c => if rise ≠ cfg.activeLow then (startClock edge c s).state else stopClock edge t c s

/-- Line `l`'s filter expiry is reached at `t` with a candidate standing: the edge is recognized and delivered
(R185, R186). -/
def filterExpiry (t : Time) (l : Fin 4) (s : State) : State :=
  let x := s.cues.lines[l]
  match x.candidate with
  | none => s
  | some c =>
    if reached c.expiry t then
      let s1 := s.setLine l { x with recognized := c.level, candidate := none }
      raiseTrigger t (.contact l c.level) (boundEdge t l c.level c.edge s1)
    else s

/-- The horn's end instant is reached: the line goes low (R188). -/
def endHorn (t : Time) (s : State) : State := if due s.cues.horn t then { s with cues.horn := none } else s

/-! ### CUE_ARM and CUE_DISARM (R193) -/

/-- CUE_ARM and CUE_DISARM: the live armed flag becomes `armed`. -/
def cueArmOp (index : Nat) (armed : Bool) (s : State) : Reply :=
  match index? 32 index with
  | none => refuse s .range
  | some i => accept (s.setCue i { s.cues.records[i] with armed := armed })

/-! ### The tables (R187, R189) -/

/-- The trigger index and value of an entry lie in the range of its trigger kind (R189, R190). -/
def triggerRange (kind index value : Nat) : Bool :=
  match kind with
  | 0 => index ≤ 3
  | 1 => index ≤ 3 ∧ value ≤ 60000
  | 2 => index ≤ 15
  | 3 => true
  | 4 => true
  | 5 => true
  | 6 => index ≤ 3 ∧ value ≤ 2
  | 7 => index ≤ 1 ∧ value ≤ 2
  | 8 => true
  | _ => false

/-- Entry `i` of a CUES staging copy is valid (R189). -/
def cueEntryValid (bs : List Byte) (i : Nat) : Bool :=
  let e := entryOf bs 16 i
  let c := cueOf e
  byteAt e 0 ≤ 1 ∧ byteAt e 1 ≤ 1 ∧ c.action ≤ 10 ∧ triggerRange c.trigger c.index c.value

/-- Every cue record after the active CUES table has changed from `old`: a cue whose bytes 0 to 12 have changed takes its
armed flag from its arm byte and a fire count of 0 (R189). -/
def cuesCommitted (old : List Byte) (s : State) : State :=
  { s with cues.records := vmapIdx s.cues.records fun i r =>
      if (entryOf old 16 i).take 13 = (s.entry tblCues i).take 13 then r
      else { r with armed := (s.cueCfg i).armAtCommit, fires := 0 } }

/-- Entry `i` of a CONTACTS staging copy is valid (R187). -/
def contactEntryValid (bs : List Byte) (i : Nat) : Bool :=
  let e := entryOf bs 4 i
  1 ≤ byteAt e 0 ∧ byteAt e 0 ≤ 50 ∧ byteAt e 1 ≤ 1 ∧ (byteAt e 1 = 1 → byteAt e 2 ≤ 3 ∧ byteAt e 3 ≤ 1)

end Sys2Proof.Machine
end

