-- ==== Sys2Proof/Decode.lean ====
section
/-! DEFINITION. How commands are spelled. The rows of spec/opcode_table.json give no bits, so no word spells a command; a
control packet spells one by its KIND and its payload (section 2.2), and this file reads and writes such packets. -/

namespace Sys2Proof

/-- The command a word of the table spells: the table gives no row any bits, so none. -/
def decodeTableWord (_nbits _w : Nat) : Option Instr := none

open Machine

/-! ### Reading a packet (R23, R24) -/

/-- The commands by their KIND values, from 1 on (R23). -/
def kinds : List Kind :=
  [.resume, .controlReset, .statusRequest, .load, .readTable, .layoutSelect, .assetOpen, .assetData, .assetClose, .assetDrop,
    .recordStart, .recordStop, .markIn, .markOut, .markClear, .cue, .play, .pause, .continuePlay, .step, .playerStop,
    .clockStart, .clockStop, .clockSet, .clockAdjust, .clockPreset, .clockReport, .scoreSet, .scoreAdd, .contractPause,
    .contractResume, .periodClose, .settleRemove, .post, .withdraw, .clearClass, .horn, .cueArm, .cueDisarm]

/-- The command a KIND byte names (R23). -/
def kindOf? (b : Byte) : Option Kind := kinds.find? fun k => k.code = b.toNat

/-- A LOAD's entries have the length its header promises (R30). -/
def loadFits (table count : Byte) (entries : List Byte) : Bool := entries.length = count.toNat * entrySize table.toNat

/-- An ASSET_DATA segment carries 1 to 241 bytes (R73). -/
def segmentFits (data : List Byte) : Bool := 1 ≤ data.length ∧ data.length ≤ 241

/-- The command of a kind with this payload, taken at `t`; none when LEN does not fit the kind (R28, test 2). -/
def decodePayload (t : Time) (k : Kind) (p : List Byte) : Option Instr :=
  match k, p with
  | .resume, [] => some (.resume t)
  | .controlReset, [] => some (.controlReset t)
  | .statusRequest, [] => some (.statusRequest t)
  | .load, table :: f1 :: f0 :: count :: flags :: entries =>
    if loadFits table count entries then some (.load t table (f1 ++ f0) count flags entries) else none
  | .readTable, [table, f1, f0, count] => some (.readTable t table (f1 ++ f0) count)
  | .layoutSelect, [n] => some (.layoutSelect t n)
  | .assetOpen, [i1, i0, kind, w1, w0, h1, h0, frames, interval] =>
    some (.assetOpen t (i1 ++ i0) kind (w1 ++ w0) (h1 ++ h0) frames interval)
  | .assetData, i1 :: i0 :: o4 :: o3 :: o2 :: o1 :: o0 :: data =>
    if segmentFits data then some (.assetData t (i1 ++ i0) (o4 ++ o3 ++ o2 ++ o1 ++ o0) data) else none
  | .assetClose, [i1, i0, c3, c2, c1, c0] => some (.assetClose t (i1 ++ i0) (c3 ++ c2 ++ c1 ++ c0))
  | .assetDrop, [i1, i0] => some (.assetDrop t (i1 ++ i0))
  | .recordStart, [source] => some (.recordStart t source)
  | .recordStop, [] => some (.recordStop t)
  | .markIn, [mark, point, n3, n2, n1, n0, l1, l0] => some (.markIn t mark point (n3 ++ n2 ++ n1 ++ n0) (l1 ++ l0))
  | .markOut, [mark, point, n3, n2, n1, n0] => some (.markOut t mark point (n3 ++ n2 ++ n1 ++ n0))
  | .markClear, [mark] => some (.markClear t mark)
  | .cue, [mark] => some (.cue t mark)
  | .play, [mark, n, d, e] => some (.play t mark n d e)
  | .pause, [] => some (.pause t)
  | .continuePlay, [] => some (.continuePlay t)
  | .step, [a1, a0] => some (.step t (a1 ++ a0))
  | .playerStop, [] => some (.playerStop t)
  | .clockStart, [c] => some (.clockStart t c)
  | .clockStop, [c] => some (.clockStop t c)
  | .clockSet, [c, m3, m2, m1, m0] => some (.clockSet t c (m3 ++ m2 ++ m1 ++ m0))
  | .clockAdjust, [c, m3, m2, m1, m0] => some (.clockAdjust t c (m3 ++ m2 ++ m1 ++ m0))
  | .clockPreset, [c] => some (.clockPreset t c)
  | .clockReport, [c, m3, m2, m1, m0, r] => some (.clockReport t c (m3 ++ m2 ++ m1 ++ m0) r)
  | .scoreSet, [f, v1, v0] => some (.scoreSet t f (v1 ++ v0))
  | .scoreAdd, [f, d1, d0] => some (.scoreAdd t f (d1 ++ d0))
  | .contractPause, [c] => some (.contractPause t c)
  | .contractResume, [c] => some (.contractResume t c)
  | .periodClose, [] => some (.periodClose t)
  | .settleRemove, [n] => some (.settleRemove t n)
  | .post, [t1, t0, cls, s1, s0, lane, mode, p1, p0, repeats, l1, l0] =>
    some (.post t (t1 ++ t0) cls (s1 ++ s0) lane mode (p1 ++ p0) repeats (l1 ++ l0))
  | .withdraw, [t1, t0] => some (.withdraw t (t1 ++ t0))
  | .clearClass, [c] => some (.clearClass t c)
  | .horn, [m1, m0] => some (.horn t (m1 ++ m0))
  | .cueArm, [i] => some (.cueArm t i)
  | .cueDisarm, [i] => some (.cueDisarm t i)
  | _, _ => none

/-- A packet with a correct check, as far as the channel reads it (R23). -/
structure Packet where
  dest : BitVec 16
  group : BitVec 16
  kind : Byte
  payload : List Byte
deriving DecidableEq, Repr

/-- The bytes begin a packet: they begin with the PREAMBLE (R23). -/
def startsPacket : List Byte → Bool
  | b0 :: b1 :: _ => b0 = 0xB5 ∧ b1 = 0x4E
  | _ => false

/-- The packet in these bytes, the PREAMBLE first, if its check is correct; none when its check failed (R24). -/
def readPacket? : List Byte → Option Packet
  | _ :: _ :: d1 :: d0 :: g1 :: g0 :: kind :: len :: rest =>
    if Config.maxPayload < len.toNat ∨ rest.length < len.toNat + 2 then none
    else if beAt rest len.toNat 2 = (crc16 (d1 :: d0 :: g1 :: g0 :: kind :: len :: rest.take len.toNat)).toNat then
      some ⟨d1 ++ d0, g1 ++ g0, kind, rest.take len.toNat⟩
    else none
  | _ => none

/-! ### Writing a packet -/

/-- The two bytes of a 16-bit field, most significant first. -/
def bytes2 (x : BitVec 16) : List Byte := [x.extractLsb' 8 8, x.extractLsb' 0 8]

/-- The four bytes of a 32-bit field. -/
def bytes4 (x : BitVec 32) : List Byte := [x.extractLsb' 24 8, x.extractLsb' 16 8, x.extractLsb' 8 8, x.extractLsb' 0 8]

/-- The five bytes of a 40-bit field. -/
def bytes5 (x : BitVec 40) : List Byte :=
  [x.extractLsb' 32 8, x.extractLsb' 24 8, x.extractLsb' 16 8, x.extractLsb' 8 8, x.extractLsb' 0 8]

/-- The KIND and the payload of a command; none for an event, which no packet carries. -/
def encodePayload : Instr → Option (Kind × List Byte)
  | .resume _ => some (.resume, [])
  | .controlReset _ => some (.controlReset, [])
  | .statusRequest _ => some (.statusRequest, [])
  | .load _ table first count flags entries => some (.load, table :: bytes2 first ++ count :: flags :: entries)
  | .readTable _ table first count => some (.readTable, table :: bytes2 first ++ [count])
  | .layoutSelect _ n => some (.layoutSelect, [n])
  | .assetOpen _ id kind width height frames interval =>
    some (.assetOpen, bytes2 id ++ kind :: bytes2 width ++ bytes2 height ++ [frames, interval])
  | .assetData _ id offset data => some (.assetData, bytes2 id ++ bytes5 offset ++ data)
  | .assetClose _ id check => some (.assetClose, bytes2 id ++ bytes4 check)
  | .assetDrop _ id => some (.assetDrop, bytes2 id)
  | .recordStart _ source => some (.recordStart, [source])
  | .recordStop _ => some (.recordStop, [])
  | .markIn _ mark point number label => some (.markIn, mark :: point :: bytes4 number ++ bytes2 label)
  | .markOut _ mark point number => some (.markOut, mark :: point :: bytes4 number)
  | .markClear _ mark => some (.markClear, [mark])
  | .cue _ mark => some (.cue, [mark])
  | .play _ mark n d e => some (.play, [mark, n, d, e])
  | .pause _ => some (.pause, [])
  | .continuePlay _ => some (.continuePlay, [])
  | .step _ amount => some (.step, bytes2 amount)
  | .playerStop _ => some (.playerStop, [])
  | .clockStart _ c => some (.clockStart, [c])
  | .clockStop _ c => some (.clockStop, [c])
  | .clockSet _ c ms => some (.clockSet, c :: bytes4 ms)
  | .clockAdjust _ c ms => some (.clockAdjust, c :: bytes4 ms)
  | .clockPreset _ c => some (.clockPreset, [c])
  | .clockReport _ c ms running => some (.clockReport, c :: bytes4 ms ++ [running])
  | .scoreSet _ f v => some (.scoreSet, f :: bytes2 v)
  | .scoreAdd _ f d => some (.scoreAdd, f :: bytes2 d)
  | .contractPause _ c => some (.contractPause, [c])
  | .contractResume _ c => some (.contractResume, [c])
  | .periodClose _ => some (.periodClose, [])
  | .settleRemove _ n => some (.settleRemove, [n])
  | .post _ tag cls strip lane mode pace repeats lifetime =>
    some (.post, bytes2 tag ++ cls :: bytes2 strip ++ lane :: mode :: bytes2 pace ++ repeats :: bytes2 lifetime)
  | .withdraw _ tag => some (.withdraw, bytes2 tag)
  | .clearClass _ c => some (.clearClass, [c])
  | .horn _ ms => some (.horn, bytes2 ms)
  | .cueArm _ i => some (.cueArm, [i])
  | .cueDisarm _ i => some (.cueDisarm, [i])
  | .deviceReset _ => none
  | .dramInitDone _ => none
  | .signalPresent _ _ => none
  | .signalAbsent _ _ => none
  | .inputFrameStart _ _ _ => none
  | .acquiringFrameTimeout _ _ => none
  | .lockedFrameTimeout _ _ => none
  | .holdTimerExpiry _ _ => none
  | .relockWindowExpiry _ => none
  | .outputFrameStart _ _ => none
  | .packetArrival _ _ _ => none
  | .loadTimerExpiry _ _ => none
  | .unattendedTimerExpiry _ => none
  | .assetLoadTimerExpiry _ _ => none
  | .contactLevelChange _ _ _ => none
  | .contactFilterExpiry _ _ => none
  | .hornEnd _ => none
  | .resetnHeldLow _ => none

/-- The bytes of a control packet (R23). -/
def writePacket (p : Packet) : List Byte :=
  let body := bytes2 p.dest ++ bytes2 p.group ++ p.kind :: BitVec.ofNat 8 p.payload.length :: p.payload
  [0xB5, 0x4E] ++ body ++ bytes2 (crc16 body)

end Sys2Proof
end

