-- ==== Sys2Proof/Machine/Control.lean ====
section
/-! DEFINITION. The control channel (chapter 2): health, staged loads and their validation and commit, readback, the report
slot, STATUS reports, the unattended timer and CONTROL_RESET. -/

namespace Sys2Proof.Machine

/-! ### Validation of staging copies -/

/-- The lowest index below `n` whose entry is not valid. -/
def firstBad (n : Nat) (valid : Nat → Bool) : Option Nat := (List.range n).find? fun i => !valid i

/-- The lowest index whose entry is not valid, for a table with `k` entries looked at by `Fin k`. -/
def firstBadFin (k : Nat) (valid : Fin k → Bool) : Option Nat := ((List.finRange k).find? fun i => !valid i).map (·.val)

/-- Every enabled segment of the active SEGMENTS table and every base of the four active layouts lies inside a canvas that
is `w` tiles wide (R20). -/
def fitsWidth (s : State) (w : Nat) : Bool :=
  (s.segments.toList.all fun g => !g.enable || decide (g.x0 + g.width ≤ w)) &&
    (List.finRange 4).all fun n => (s.layout n).toList.all fun z => decide (z.colBase.toNat < w)

/-- The same for a canvas `h` tiles high (R20). -/
def fitsHeight (s : State) (h : Nat) : Bool :=
  (s.segments.toList.all fun g => !g.enable || decide (g.y0 + g.height ≤ h)) &&
    (List.finRange 4).all fun n => (s.layout n).toList.all fun z => decide (z.rowBase.toNat < h)

/-- Entry `i` of a DEVICE staging copy lies in its range and fits what is active (section 1.7, R20). -/
def deviceEntryValid (s : State) (bs : List Byte) (i : Nat) : Bool :=
  let n := beAt bs (4 * i) 4
  match i with
  | 0 => 1 ≤ n ∧ n ≤ 512 ∧ fitsWidth s n
  | 1 => 1 ≤ n ∧ n ≤ 256 ∧ fitsHeight s n
  | 2 => n ≤ 2
  | 3 => n ≤ 30000
  | 4 => n ≤ 15
  | 5 => 1 ≤ n ∧ n ≤ 600
  | 7 => assetFieldValid n
  | _ => true

/-- Entry `i` of a UNIT staging copy lies in its range (section 2.9, R44). -/
def unitEntryValid (bs : List Byte) (i : Nat) : Bool :=
  let n := beAt bs (4 * i) 4
  match i with
  | 0 => n ≤ 0xFFE
  | 1 => n ≤ 0xFFF
  | 2 => n ≤ 0xFFFF
  | 3 => n ≤ 2
  | 4 => n = 0 ∨ (5 ≤ n ∧ n ≤ 600)
  | 5 => n ≤ 3 ∨ n = 0xFFFF
  | _ => 1 ≤ n ∧ n ≤ 600

/-- Record `i` of a SEGMENTS staging copy is valid (R63). -/
def segmentEntryValid (s : State) (bs : List Byte) (i : Nat) : Bool :=
  let e := entryOf bs 12 i
  let g := segmentOf e
  byteAt e 0 ≤ 1 ∧
    (g.enable → 1 ≤ g.width ∧ 1 ≤ g.height ∧ g.x0 + g.width ≤ s.device.wTiles ∧ g.y0 + g.height ≤ s.device.hTiles)

/-- The source index lies in the range of its kind (R60). -/
def sourceIndexValid (kind index : Nat) : Bool :=
  match kind with
  | 4 => index ≤ 7
  | 5 => index ≤ 3
  | 6 => index ≤ 7
  | 7 => index ≤ 511
  | _ => true

/-- Zone `i` of a LAYOUT staging copy is valid (R60). -/
def zoneEntryValid (s : State) (bs : List Byte) (i : Nat) : Bool :=
  let e := entryOf bs 20 i
  byteAt e 0 ≤ 1 ∧ beAt e 1 2 < s.device.wTiles ∧ beAt e 1 2 ≤ 511 ∧ beAt e 3 2 ≤ 511 ∧ byteAt e 5 < s.device.hTiles ∧
    byteAt e 7 ≤ 8 ∧ sourceIndexValid (byteAt e 7) (beAt e 8 2) ∧ beAt e 10 2 ≤ 4095 ∧ beAt e 12 2 ≤ 4095 ∧
    byteAt e 14 ≤ 5

/-- The source index of a panel field of kind SCORE, CLOCK or REPLAY_CLOCK is valid (R135). -/
def fieldIndexValid (kind index : Nat) : Bool := if kind = 1 then index ≠ 7 ∧ index ≤ 15 else index ≤ 3

/-- A field record of a PANELS staging copy is valid (R135). -/
def fieldValid (f : List Byte) : Bool :=
  let kind := byteAt f 0
  kind = 0 ∨
    (kind ≤ 4 ∧ beAt f 2 2 ≤ 1023 ∧ beAt f 4 2 ≤ 511 ∧ assetFieldValid (beAt f 6 2) ∧ assetFieldValid (beAt f 12 2) ∧
      assetFieldValid (beAt f 14 2) ∧
      (kind = 4 ∨
        (1 ≤ byteAt f 8 ∧ byteAt f 8 ≤ 6 ∧ byteAt f 9 ≤ 1 ∧ byteAt f 10 ≤ 2 ∧ byteAt f 11 ≤ 1 ∧
          fieldIndexValid kind (byteAt f 1))))

/-- Panel `i` of a PANELS staging copy is valid (R135). -/
def panelEntryValid (bs : List Byte) (i : Nat) : Bool :=
  let e := entryOf bs 208 i
  beAt e 0 2 ≤ 1024 ∧ beAt e 2 2 ≤ 512 ∧ assetFieldValid (beAt e 4 2) ∧
    (List.range 12).all fun k => fieldValid ((e.drop (16 + 16 * k)).take 16)

/-- The first invalid entry index that the owner of table `id` gives for a staging copy, none when the copy is valid
(R33). -/
def firstInvalid (s : State) (id : Fin 15) (bs : List Byte) : Option Nat :=
  match id.val with
  | 0 => firstBad 8 (deviceEntryValid s bs)
  | 1 => firstBad 7 (unitEntryValid bs)
  | 2 => firstBad 4 (segmentEntryValid s bs)
  | 7 => if memoryValid s bs then none else some 0
  | 8 => firstBadFin 4 (clockEntryValid s bs)
  | 9 => firstBad 8 (panelEntryValid bs)
  | 10 => firstBadFin 64 (contractEntryValid bs)
  | 11 => firstBadFin 8 (laneEntryValid bs)
  | 12 => firstBad 9 (templateEntryValid bs)
  | 13 => firstBad 32 (cueEntryValid bs)
  | 14 => firstBad 4 (contactEntryValid bs)
  | _ => firstBad 16 (zoneEntryValid s bs)

/-! ### The unattended timer (section 2.8) -/

/-- The unattended timer started at `t` with the active timeout; a timeout of 0 keeps it stopped (R43). -/
def restartUnattended (t : Time) (s : State) : State :=
  { s with control.unattendedTimer :=
      if s.unit.timeoutS = 0 then none else some (after t (s.unit.timeoutS * Config.ticksPerSecond)) }

/-- An accepted packet restarts the unattended timer and clears the unattended flag; a change of the flag queues a STATUS
report (R25, R43). -/
def attend (t : Time) (s : State) : State :=
  let s1 := restartUnattended t s
  if s.control.unattended then raiseStatus { s1 with control.unattended := false } else s1

/-- The unattended layout is selected as by LAYOUT_SELECT, if the UNIT table names one (R43, R59). -/
def selectUnattendedLayout (s : State) : State :=
  match s.unit.layout with
  | none => s
  | some n => { s with comp.pendingLayout := some n }

/-- The unattended timer expires at `t` (R43, R181). DESIGN CHOICE: the MESSAGE_DONE triggers come before the UNATTENDED trigger
(notes/assumptions/30.md). -/
def unattendedExpiry (t : Time) (s : State) : State :=
  if due s.control.unattendedTimer t then
    let s1 := { s with control.unattended := true, control.unattendedTimer := none }
    let s2 := dismissClass t .unattended .standard (selectUnattendedLayout s1)
    raiseStatus (raiseTrigger t .unattended s2)
  else s

/-! ### Commits (R33, R34) -/

/-- The state with the load state of table `id` replaced. -/
def State.setLoad (s : State) (id : Fin 15) (l : LoadState) : State := { s with control.loads := s.control.loads.set id l }

/-- The state with the active copy of table `id` replaced. -/
def State.setTable (s : State) (id : Fin 15) (bs : List Byte) : State := { s with active := s.active.set id bs }

/-- The effects of a UNIT commit at `t` that has replaced `old` (R45). -/
def unitCommitted (t : Time) (old : List Byte) (s : State) : State :=
  let s1 := if (unitOf old).timeoutS = s.unit.timeoutS then s else restartUnattended t s
  if (unitOf old).statusInterval = s.unit.statusInterval then s1 else { s1 with control.statusCount := 0 }

/-- The effects of a MEMORY commit that has replaced `old`: a change of R empties the ring (R68). -/
def memoryCommitted (old : List Byte) (s : State) : State :=
  if ringSlotsOf old = s.ringSlots then s else emptyRing s.ringSlots s

/-- The effects of a commit of table `id` at `t`, beyond its active copy, which has replaced `old`. The other tables are
read as they stand whenever they are used. -/
def commitEffects (t : Time) (id : Fin 15) (old : List Byte) (s : State) : State :=
  match id.val with
  | 1 => unitCommitted t old s
  | 7 => memoryCommitted old s
  | 8 => clocksCommitted t old s
  | 10 => contractsCommitted old s
  | 11 => lanesCommitted old s
  | 13 => cuesCommitted old s
  | _ => s

/-- A COMPLETE load of table `id` handed to its owner at `t`: it is committed or rejected (R33). -/
def commitTable (t : Time) (id : Fin 15) (staging : List Byte) (s : State) : State :=
  match firstInvalid s id staging with
  | some k => raiseEvent .commitRejected id.val (be 1 id.val ++ be 2 k) (s.setLoad id .idle)
  | none =>
    raiseEvent .commitDone id.val (be 1 id.val)
      (commitEffects t id s.active[id] ((s.setTable id staging).setLoad id .idle))

/-- Table `id`'s load is COMPLETE. -/
def State.loadComplete (s : State) (id : Fin 15) : Bool :=
  match s.control.loads[id] with
  | .complete _ => true
  | _ => false

/-- Table `id` at frame start `t`: a COMPLETE load is handed over (R33). -/
def handTable (t : Time) (id : Fin 15) (s : State) : State :=
  match s.control.loads[id] with
  | .complete staging => commitTable t id staging s
  | _ => s

/-- The six tables that are validated against one another (R34). -/
def groupTables : List (Fin 15) := [0, 2, 3, 4, 5, 6]

/-- At one frame start at most one COMPLETE load of the six is handed over: the one with the lowest table id (R34). -/
def handGroup (t : Time) (s : State) : State :=
  match groupTables.find? s.loadComplete with
  | none => s
  | some id => handTable t id s

/-! ### Loads (R30 to R32, R35) -/

/-- The staging copy a segment writes into: a copy of the active copy with FIRST, otherwise that of the OPEN load; none
where a segment without FIRST meets no OPEN load (R31). -/
def stagingBase (s : State) (id : Fin 15) (first : Bool) : Option (List Byte) :=
  if first then some s.active[id]
  else match s.control.loads[id] with
    | .opened staging _ => some staging
    | _ => none

/-- LOAD (R30, R31): `first` entry index, `count` entries, the FIRST and LAST flags, and the bytes of the entries. -/
def loadOp (t : Time) (table first count : Nat) (flagFirst flagLast : Bool) (entries : List Byte) (s : State) : Reply :=
  match index? 15 table with
  | none => refuse s .badTable
  | some id =>
    if tableEntries id.val < first + count then refuse s .range
    else match stagingBase s id flagFirst with
      | none => refuse s .order
      | some base =>
        let staging := overwrite base (entrySize id.val * first) (clearPadding id.val first entries)
        accept (s.setLoad id (if flagLast then .complete staging else .opened staging (after t Config.loadTimer)))

/-- LOAD_ABANDONED (R38): reasons 0 TIMEOUT, 1 HEALTH. -/
def loadAbandonedEvent (id : Fin 15) (reason : Nat) (s : State) : State :=
  raiseEvent .loadAbandoned id.val (be 1 id.val ++ be 1 reason) s

/-- The load timer of table `id` expires at `t` (R32). -/
def loadTimeout (t : Time) (id : Fin 15) (s : State) : State :=
  match s.control.loads[id] with
  | .opened _ expiry => if reached expiry t then loadAbandonedEvent id 0 (s.setLoad id .idle) else s
  | _ => s

/-- Table `id`'s load is abandoned if it is OPEN or COMPLETE; `report` tells whether LOAD_ABANDONED HEALTH is queued
(R35). -/
def abandonLoad (report : Bool) (s : State) (id : Fin 15) : State :=
  match s.control.loads[id] with
  | .idle => s
  | _ => if report then loadAbandonedEvent id 1 (s.setLoad id .idle) else s.setLoad id .idle

/-- Every OPEN and every COMPLETE load is abandoned (R35). DESIGN CHOICE: their LOAD_ABANDONED events are queued in ascending
table id; the spec gives no order (notes/assumptions/30.md). -/
def abandonLoads (report : Bool) (s : State) : State := (List.finRange 15).foldl (abandonLoad report) s

/-! ### Readback (R36, R37) -/

/-- READ_TABLE (R36). DESIGN CHOICE: BAD_TABLE and RANGE are tested before BUSY (notes/assumptions/35.md). -/
def readTableOp (table first count : Nat) (s : State) : Reply :=
  if 15 < table then refuse s .badTable
  else if count = 0 ∨ tableEntries table < first + count then refuse s .range
  else if s.control.readback.isSome then refuse s .busy
  else accept (queueChunk ⟨table, first * entrySize table, count * entrySize table, 0⟩ s)

/-! ### The report slot and STATUS (R41, R42) -/

/-- The report the slot takes: of the smallest rank number present, the one with the oldest place (R41). -/
def slotChoice (q : List Report) : Option Report :=
  [1, 2, 3, 4, 5, 6].findSome? fun k => q.find? fun r => r.kind.rank = k

/-- A report is sent as a packet in the frame that begins (R38, R41). -/
def sendReport (r : Report) (s : State) : State := { s with control.sent := some (reportPacket s.unit.address r) }

/-- A STATUS report is sent: its payload is built now and the lost report count returns to 0 (R40, R42). -/
def sendStatus (r : Report) (s : State) : State :=
  let s1 := sendReport { r with payload := s.statusPayload } s
  { s1 with control.lost := 0 }

/-- The report slot of an output frame start (R41). -/
def takeSlot (s : State) : State :=
  match slotChoice s.control.queue with
  | none => sendStatus ⟨.status, 0, 0, 0, []⟩ s
  | some r =>
    let s1 := { s with control.queue := s.control.queue.eraseP fun x => x.same r }
    if r.kind = .status then sendStatus r s1
    else if r.isChunk then chunkLeft (sendReport r s1)
    else sendReport r s1

/-- The status frame count of an output frame start (R42). -/
def countFrame (s : State) : State :=
  if s.unit.statusInterval ≤ s.control.statusCount + 1 then raiseStatus { s with control.statusCount := 0 }
  else { s with control.statusCount := s.control.statusCount + 1 }

/-! ### Health (section 2.3) -/

/-- The health counter after a packet that was checked (R26). -/
def healthAfter (correct : Bool) (n : Nat) : Nat := if correct then n - 1 else min Config.healthTop (n + 8)

/-- The health counter becomes `n`: on a change of the health state to GUARDED or ISOLATED every load and every LOADING asset
is abandoned, and every change queues a STATUS report (R27, R35, R76). DESIGN CHOICE: the events of the loads come first, then
those of the assets, then the STATUS report (notes/assumptions/30.md). -/
def setHealth (n : Nat) (s : State) : State :=
  let s1 := { s with control.health := n }
  if healthOf n = s.health then s1
  else if healthOf n = .normal then raiseStatus s1
  else raiseStatus (abandonAssets true (abandonLoads true s1))

/-- The reason for which a health state refuses a command, if it does (R27). `emergency` tells that a POST's class is
EMERGENCY. -/
def healthGate (h : HealthState) (k : Kind) (emergency : Bool) : Option Reason :=
  match h with
  | .normal => none
  | .guarded => if k = .load ∨ k = .assetOpen ∨ k = .assetData then some .guarded else none
  | .isolated =>
    if k = .controlReset ∨ k = .withdraw ∨ (k = .post ∧ emergency) then none else some .isolated

/-! ### STATUS_REQUEST and CONTROL_RESET -/

/-- STATUS_REQUEST (R42). -/
def statusRequestOp (s : State) : Reply := accept (raiseStatus s)

/-- The control channel's own state after a control reset at `t`, but for its load states (R46). -/
def resetChannel (t : Time) (s : State) : State :=
  restartUnattended t
    { s with control.health := 0, control.queue := [], control.lost := 0, control.readback := none,
             control.unattended := false }

/-- CONTROL_RESET (R46). -/
def controlResetOp (t : Time) (s : State) : Reply :=
  let s1 := abandonAssets false (abandonLoads false s)
  let s2 := emptyQueue (resetChannel t s1)
  accept (raiseStatus (recorderStop (playerStop s2)))

end Sys2Proof.Machine
end

