-- ==== Sys2Proof/Machine/Pictures.lean ====
section
/-! DEFINITION. Composition (chapter 3), the pictures of panels (chapter 7), lanes and assets: what each pixel of the canvas
and of each output link is. -/

namespace Sys2Proof.Machine

/-! ### Pixels and pictures -/

/-- A pixel with its alpha, each channel 0 to 255 (00_scope, Canvas and pictures). -/
structure Pixel where
  r : Nat
  g : Nat
  b : Nat
  a : Nat
deriving DecidableEq, Repr

/-- A transparent pixel, all four channels 0. -/
def Pixel.clear : Pixel := ⟨0, 0, 0, 0⟩

/-- A colour at alpha 255. -/
def opaquePixel (c : Rgb) : Pixel := ⟨c.r.toNat, c.g.toNat, c.b.toNat, 255⟩

/-- A picture a source offers: its size, and the pixel at each place inside it. -/
structure Pic where
  width : Nat
  height : Nat
  pixel : Nat → Nat → Pixel

/-- A picture of width and height 0. -/
def Pic.nothing : Pic := ⟨0, 0, fun _ _ => Pixel.clear⟩

/-- A pixel of a picture; beyond the image it is transparent (R49). -/
def Pic.get (p : Pic) (x y : Nat) : Pixel := if x < p.width ∧ y < p.height then p.pixel x y else Pixel.clear

/-- A picture with its top left at `(x, y)` of another; drawing copies its pixels with alpha above 0 (R138, R179). -/
structure Drawing where
  pic : Pic
  x : Int
  y : Int

/-- The pixel at `(px, py)` after a drawing over `below` (R138, R179). -/
def Drawing.over (d : Drawing) (px py : Nat) (below : Pixel) : Pixel :=
  let dx := (px : Int) - d.x
  let dy := (py : Int) - d.y
  if dx < 0 ∨ dy < 0 then below
  else
    let top := d.pic.get dx.toNat dy.toNat
    if top.a = 0 then below else top

/-- A picture that begins transparent, with drawings made one over the other (R138, R179). -/
def drawn (width height : Nat) (ds : List Drawing) : Pic :=
  ⟨width, height, fun px py => ds.foldl (fun below d => d.over px py below) Pixel.clear⟩

/-- An input picture: every pixel has alpha 255 (R6, R96). -/
def picOf (p : Picture) : Pic := ⟨p.width, p.height, fun x y => opaquePixel (Picture.pixel p x y)⟩

/-! ### Assets (R50, R70) -/

/-- The frame of an asset that is shown: that of the compositor's frame number for a SEQUENCE (R50). -/
def Asset.frameShown (a : Asset) (frameNumber : Nat) : Nat :=
  if a.kind = .sequence then frameNumber / a.interval % a.frames else 0

/-- The pixel at `(x, y)` of frame `f` of an asset (R70). -/
def assetPixel (m : Dram) (a : Asset) (f x y : Nat) : Pixel :=
  let at_ := a.address (4 * (x + a.width * (y + a.height * f)))
  ⟨(m.read at_).toNat, (m.read (at_ + 1)).toNat, (m.read (at_ + 2)).toNat, (m.read (at_ + 3)).toNat⟩

/-- An asset's picture (R50). -/
def Scene.assetPic (sc : Scene) (id : AssetId) : Pic :=
  let a := sc.assets[id]
  ⟨a.width, a.height, assetPixel sc.dram a (a.frameShown sc.frameNumber)⟩

/-- The compositor may use asset `id` as a picture of kind `k` (R80). -/
def Scene.usable (sc : Scene) (k : AssetKind) (id : AssetId) : Bool :=
  usableBy sc.assets sc.pins id ∧ sc.assets[id].kind = k

/-! ### Panels (section 7.4) -/

/-- The cells of a digit set after the digits (R69). -/
def cellColon : Nat := 10
def cellPoint : Nat := 11
def cellBlank : Nat := 12
def cellDash : Nat := 13

/-- The decimal digits of a number, no leading zeros, at least one (R139). -/
def digits : Nat → Nat → List Nat
  | 0, _ => []
  | fuel + 1, n => if n < 10 then [n] else digits fuel (n / 10) ++ [n % 10]

/-- A number as a string of cells (R139). -/
def numberCells (n : Nat) : List Nat := digits (n + 1) n

/-- The form TENTHS of a tenths count (R141). -/
def tenthsCells (t : Nat) : List Nat := numberCells (t / 10) ++ [cellPoint, t % 10]

/-- The form MINUTES of a seconds count (R141). -/
def minutesCells (s : Nat) : List Nat := numberCells (s / 60) ++ [cellColon, s % 60 / 10, s % 60 % 10]

/-- A clock value as a string of cells: format 0 AUTO, 1 MSS, 2 SST (R141). -/
def clockCells (format : Nat) (d : Direction) (threshold v : Nat) : List Nat :=
  if format = 2 ∨ (format = 0 ∧ showsTenths d threshold v) then tenthsCells (tenthsCount d v)
  else minutesCells (secondsCount d v)

/-- A string placed in a row of `n` cells (R139). -/
def rowOf (n : Nat) (zeroLead : Bool) (str : List Nat) : List Nat :=
  if n < str.length then List.replicate n cellDash
  else List.replicate (n - str.length) (if zeroLead then 0 else cellBlank) ++ str

/-- A clock field's row (R141). -/
def clockRow (f : FieldCfg) (threshold : Nat) (d : Direction) (v : Nat) (stale : Bool) : List Nat :=
  if stale ∧ f.dashes then List.replicate f.digits cellDash
  else rowOf f.digits f.zeroLead (clockCells f.format d threshold v)

/-- The row of a field of kind SCORE, CLOCK or REPLAY_CLOCK (R140 to R142). -/
def Scene.fieldRow (sc : Scene) (f : FieldCfg) : List Nat :=
  let c := Fin.ofNat 4 f.index
  let cfg := clockCfgAt sc.clockTable c
  match f.kind with
  | 1 => rowOf f.digits f.zeroLead (numberCells sc.score[Fin.ofNat 16 f.index])
  | 2 => clockRow f cfg.tenths cfg.direction sc.clocks[c].value sc.clocks[c].stale
  | _ =>
    match sc.replay with
    | none => List.replicate f.digits cellBlank
    | some fr => clockRow f cfg.tenths fr.snapshot[c].direction fr.snapshot[c].value fr.snapshot[c].stale

/-- Cell `c` of a digit set as a picture (R138). -/
def Scene.cell (sc : Scene) (id : AssetId) (c : Nat) : Pic :=
  let p := sc.assetPic id
  let w := p.width / 14
  ⟨w, p.height, fun x y => p.get (c * w + x) y⟩

/-- A row of cells from `(x, y)` on (R139). -/
def Scene.rowDrawings (sc : Scene) (id : AssetId) (x y : Nat) (row : List Nat) : List Drawing :=
  row.mapIdx fun i c => ⟨sc.cell id c, ((x + i * ((sc.assetPic id).width / 14) : Nat) : Int), y⟩

/-- The drawing of an image asset, if it is named and usable (R138). -/
def Scene.imageDrawing (sc : Scene) (id : Option AssetId) (x y : Nat) : List Drawing :=
  match id with
  | none => []
  | some a => if sc.usable .image a then [⟨sc.assetPic a, x, y⟩] else []

/-- The drawings of a field record (R138 to R143). -/
def Scene.fieldDrawings (sc : Scene) (f : FieldCfg) : List Drawing :=
  match f.kind with
  | 0 => []
  | 4 =>
    if sc.score[fieldPossession] = 1 then sc.imageDrawing f.home f.x f.y
    else if sc.score[fieldPossession] = 2 then sc.imageDrawing f.away f.x f.y
    else []
  | _ =>
    match f.digitSet with
    | none => []
    | some id => if sc.usable .digitSet id then sc.rowDrawings id f.x f.y (sc.fieldRow f) else []

/-- The picture of panel `p`: its background, then its field records in number order (R138). -/
def Scene.panelPic (sc : Scene) (p : Fin 8) : Pic :=
  let cfg := panelAt sc.panels p
  drawn cfg.width cfg.height (sc.imageDrawing cfg.background 0 0 ++ cfg.fields.flatMap sc.fieldDrawings)

/-! ### Lane pictures (R179) -/

/-- The picture of a message lane or of the emergency lane (R179). -/
def Scene.lanePic (sc : Scene) (l : LanePicture) : Pic :=
  drawn l.width l.height (match l.strip with | none => [] | some st => [⟨sc.assetPic st.id, st.x, st.y⟩])

/-! ### Zones (R47 to R49) -/

/-- Bits of a base and a number agree at every place, of the lowest `n`, where the mask holds 0 (R47). -/
def matchesMask (n : Nat) (mask base x : Nat) : Bool :=
  (List.range n).all fun i => mask.testBit i || (base.testBit i == x.testBit i)

/-- The zone covers the tile at column `c` and row `r` (R47). -/
def Zone.covers (z : Zone) (c r : Nat) : Bool :=
  matchesMask 9 z.colMask.toNat z.colBase.toNat c && matchesMask 8 z.rowMask.toNat z.rowBase.toNat r

/-- The zone-local pixel of canvas pixel `(px, py)` (R48). -/
def Zone.local (z : Zone) (px py : Nat) : Nat × Nat :=
  (8 * (px / 8 % 2 ^ colField z) + px % 8, 8 * (py / 8 % 2 ^ rowField z) + py % 8)

/-- The average of pixels, each channel on its own, a half rounded up (R49). -/
def averagePixel (ps : List Pixel) : Pixel :=
  let mean (f : Pixel → Nat) : Nat := ((ps.map f).sum + ps.length / 2) / ps.length
  ⟨mean (·.r), mean (·.g), mean (·.b), mean (·.a)⟩

/-- The `k` × `k` block of a picture whose top left is `(x, y)` (R49). -/
def Pic.block (p : Pic) (k x y : Nat) : List Pixel :=
  (List.range k).flatMap fun j => (List.range k).map fun i => p.get (x + i) (y + j)

/-- The top left source pixel of local pixel `(x, y)` at a scale code, with the offsets (R49). -/
def Zone.sourceAt (z : Zone) (x y : Nat) : Nat × Nat :=
  match z.scale with
  | 0 => (z.offsetX + 4 * x, z.offsetY + 4 * y)
  | 1 => (z.offsetX + 2 * x, z.offsetY + 2 * y)
  | k => (z.offsetX + x / (k - 1), z.offsetY + y / (k - 1))

/-- The colour of local pixel `(x, y)` of the zone from a source picture at the zone's scale (R49). -/
def Zone.draw (z : Zone) (p : Pic) (x y : Nat) : Pixel :=
  let o := z.sourceAt x y
  match z.scale with
  | 0 => averagePixel (p.block 4 o.1 o.2)
  | 1 => averagePixel (p.block 2 o.1 o.2)
  | _ => p.get o.1 o.2

/-- Local pixel `(x, y)` is wholly beyond the source's image: its top left source pixel is (R49, R55). -/
def Zone.beyond (z : Zone) (p : Pic) (x y : Nat) : Bool :=
  let o := z.sourceAt x y
  !(decide (o.1 < p.width ∧ o.2 < p.height))

/-! ### Sources (R50, R51) -/

/-- The picture a source offers; none where it offers slate (R50). -/
def Scene.offered (sc : Scene) (src : Source) : Option Pic :=
  match src with
  | .none => some Pic.nothing
  | .program => if sc.op = .live ∨ sc.op = .hold then sc.program.map picOf else none
  | .iso => if sc.isoFeed = .slate then none else sc.isoPicture.map picOf
  | .replay => some ((sc.replay.map fun f => picOf f.picture).getD Pic.nothing)
  | .sponsor l => some ((sc.sponsors[l].map sc.assetPic).getD Pic.nothing)
  | .message m => some (sc.lanePic sc.messages[m])
  | .panel p => some (sc.panelPic p)
  | .asset id => some (sc.assetPic id)
  | .slate => none

/-- The blend of a channel: (a × top + (255 − a) × below + 127) div 255 (R55). -/
def blendChannel (a top below : Nat) : Nat := (a * top + (255 - a) * below + 127) / 255

/-- The top pixel blended over the one below, whose alpha is not used (R55). -/
def blend (top below : Pixel) : Pixel :=
  ⟨blendChannel top.a top.r below.r, blendChannel top.a top.g below.g, blendChannel top.a top.b below.b, 255⟩

/-- The slate colour as a pixel. -/
def Scene.slatePixel (sc : Scene) : Pixel := opaquePixel sc.slateColour

/-- Slate at local pixel `(x, y)` of a window: the colour, with a usable slate asset centred over it (R51). -/
def Scene.slateAt (sc : Scene) (window : Nat × Nat) (x y : Nat) : Pixel :=
  match sc.slateAsset with
  | none => sc.slatePixel
  | some id =>
    if sc.usable .image id then
      let p := sc.assetPic id
      let d : Drawing := ⟨p, ((window.1 : Int) - p.width) / 2, ((window.2 : Int) - p.height) / 2⟩
      blend (d.over x y Pixel.clear) sc.slatePixel
    else sc.slatePixel

/-- The pixel a zone draws at canvas pixel `(px, py)`, and whether it is beyond its source's image (R49, R51). -/
def Scene.zonePixel (sc : Scene) (z : Zone) (px py : Nat) : Pixel × Bool :=
  let q := z.local px py
  match sc.offered z.source with
  | none => (sc.slateAt (zoneWindow z sc.map.wTiles sc.map.hTiles) q.1 q.2, false)
  | some p => (z.draw p q.1 q.2, z.beyond p q.1 q.2)

/-! ### The tile map (R54, R56) -/

/-- A layer of a tile. -/
inductive Layer where
  | none
  | zone (i : Fin 16) (z : Zone)
  | emergency
  | slate
deriving DecidableEq, Repr

/-- The layer that a zone of the list makes, if there is one. -/
def layerOr (x : Option (Fin 16 × Zone)) (l : Layer) : Layer :=
  match x with
  | some (i, z) => .zone i z
  | none => l

/-- The zone has a PANEL source. -/
def Zone.isPanel (z : Zone) : Bool :=
  match z.source with
  | .panel _ => true
  | _ => false

/-- The zones that qualify on a tile, in number order (R54). -/
def TileMap.over (m : TileMap) (c r : Nat) : List (Fin 16 × Zone) := m.zones.filter fun x => x.2.covers c r

/-- The top and the second layer of a tile (R54, R56). -/
def TileMap.layers (m : TileMap) (c r : Nat) : Layer × Layer :=
  let q := m.over c r
  if m.takeover then
    match q.head? with
    | some (i, z) => if m.keepPanels ∧ z.isPanel then (.zone i z, .emergency) else (.emergency, .slate)
    | none => (.emergency, .slate)
  else (layerOr q.head? .none, layerOr (q.drop 1).head? .slate)

/-! ### The canvas and the output links (R55, R62) -/

/-- The pixel of a layer at a canvas pixel, and whether it is beyond its source's image. The emergency lane spans the canvas
(R56). -/
def Scene.layerPixel (sc : Scene) (l : Layer) (px py : Nat) : Pixel × Bool :=
  match l with
  | .none => (Pixel.clear, false)
  | .zone _ z => sc.zonePixel z px py
  | .emergency =>
    let p := sc.lanePic sc.emergency
    (p.get px py, !(decide (px < p.width ∧ py < p.height)))
  | .slate => (sc.slatePixel, false)

/-- A canvas pixel: the top layer's pixel blended over the second layer's, taken opaque, and replaced by the slate colour
where it is beyond its source's image (R55). -/
def Scene.canvas (sc : Scene) (px py : Nat) : Pixel :=
  let ls := sc.map.layers (px / 8) (py / 8)
  let below := sc.layerPixel ls.2 px py
  blend (sc.layerPixel ls.1 px py).1 (if below.2 then sc.slatePixel else below.1)

/-- The picture the output link of segment `i` sends in the frame, if it sends one (R62). -/
def Scene.linkPicture (sc : Scene) (i : Fin 4) : Option Pic :=
  let g := sc.segments[i]
  if g.enable then some ⟨8 * g.width, 8 * g.height, fun x y => sc.canvas (8 * g.x0 + x) (8 * g.y0 + y)⟩ else none

/-! ### Visible tiles (R57) -/

/-- A tile lies in the segment. -/
def Segment.holds (g : Segment) (c r : Nat) : Bool :=
  g.x0 ≤ c ∧ c < g.x0 + g.width ∧ g.y0 ≤ r ∧ r < g.y0 + g.height

/-- A tile lies in at least one enabled segment (R57). -/
def sentTile (segs : Vector Segment 4) (c r : Nat) : Bool := segs.toList.any fun g => g.enable && g.holds c r

/-- The top layer of a tile is zone `i`. -/
def TileMap.topIs (m : TileMap) (i : Fin 16) (c r : Nat) : Bool :=
  match (m.layers c r).1 with
  | .zone j _ => j = i
  | _ => false

/-- The visible tile count of zone `i` (R57). -/
def visibleTiles (m : TileMap) (segs : Vector Segment 4) (i : Fin 16) : Nat :=
  ((List.range m.hTiles).map fun r =>
    ((List.range m.wTiles).filter fun c => sentTile segs c r && m.topIs i c r).length).sum

/-! ### Presentability, the tile map and the pin set of a frame (R52, R54, R64) -/

/-- A zone is presentable at this frame start (R52). -/
def presentable (s : State) (z : Zone) : Bool :=
  match z.source with
  | .none => false
  | .replay => s.replay.player.state ≠ .idle
  | .message m => (s.msgs.lanes[m].current.bind s.msgs.entry).isSome
  | .panel p => (panelAt s.active[tblPanels] p).defined
  | .asset id => usableBy s.assets.recs s.comp.pins id
  | _ => true

/-- The zones of the active layout with their numbers. -/
def State.numberedZones (s : State) : List (Fin 16 × Zone) := (List.finRange 16).map fun i => (i, s.zones[i])

/-- The tile map built at a frame start (R54, R56). -/
def buildMap (s : State) : TileMap :=
  { wTiles := s.device.wTiles, hTiles := s.device.hTiles,
    zones := s.numberedZones.filter fun x => x.2.enable && presentable s x.2,
    takeover := s.msgs.takeover, keepPanels := s.keepPanels }

/-- The visible tile count of every zone of the active layout (R57). -/
def countsOf (s : State) (m : TileMap) : Vector ZoneCount 16 :=
  let segs := s.segments
  let zones := s.zones
  vofFn fun i => ⟨zones[i].source, visibleTiles m segs i⟩

/-- The assets a field record names (R64): the digit set of a POSSESSION record is ignored (R143), and every byte but the
kind of a NONE record (R135). -/
def FieldCfg.assets (f : FieldCfg) : List AssetId :=
  match f.kind with
  | 0 => []
  | 4 => f.home.toList ++ f.away.toList
  | _ => f.digitSet.toList ++ f.home.toList ++ f.away.toList

/-- The assets a panel names (R64). -/
def PanelCfg.assets (p : PanelCfg) : List AssetId := p.background.toList ++ p.fields.flatMap FieldCfg.assets

/-- The assets an enabled zone may show through the compositor's own pins (R64). -/
def zoneAssets (s : State) (z : Zone) : List AssetId :=
  match z.source with
  | .asset id => [id]
  | .panel p => if (panelAt s.active[tblPanels] p).defined then (panelAt s.active[tblPanels] p).assets else []
  | _ => []

/-- The wanted set of asset ids (R64). -/
def wantedAssets (s : State) : List AssetId :=
  let ids := (s.zones.toList.filter (·.enable)).flatMap (zoneAssets s) ++ s.device.slateAsset.toList
  (List.finRange 512).filter fun id => id ∈ ids

/-- The compositor takes a pin on a wanted asset that is READY and not pinned (R64). -/
def takeWanted (s : State) (id : AssetId) : State :=
  if id ∉ s.comp.pins ∧ s.assets.recs[id].state = .ready then
    { takePin id s with comp.pins := s.comp.pins ++ [id] }
  else s

/-- The compositor releases its pin on an asset it no longer wants (R64). -/
def releaseUnwanted (wanted : List AssetId) (s : State) (id : AssetId) : State :=
  if id ∈ wanted then s else { releasePin id s with comp.pins := s.comp.pins.erase id }

/-- Stage 6: the pin set is brought up to date (R64). -/
def updatePins (s : State) : State :=
  let wanted := wantedAssets s
  s.comp.pins.foldl (releaseUnwanted wanted) (wanted.foldl takeWanted s)

/-! ### Stages 2 to 7 (R58) -/

/-- Stage 2: a pending selection becomes the active layout (R59). -/
def selectLayout (s : State) : State :=
  match s.comp.pendingLayout with
  | none => s
  | some n => { s with comp.activeLayout := n, comp.pendingLayout := none }

/-- Stage 3: the frame number rises, and the counts become those of the frame just ended (R58). -/
def nextFrame (s : State) : State :=
  { s with comp.frameNumber := s.comp.frameNumber + 1, comp.ended := s.comp.visible }

/-- The ring frame that the player presents in the frame (R96). -/
def State.presentedFrame (s : State) : Option RingFrame := s.replay.player.presented.bind fun p => s.replay.ring.frame p.number

/-- The picture an input offers to the compositor: its frozen frame, or in HOLD the one that stood when LIVE was left
(R6, R8, section 1.4, notes/assumptions/32.md). -/
def Receiver.offered (r : Receiver) (hold : Bool) : Option Picture := (if hold then r.held else r.frozen).map (·.picture)

/-- The source pictures as they stand at this frame start, with the tile map (R58, stage 7). -/
def sceneOf (s : State) (m : TileMap) : Scene :=
  { map := m, segments := s.segments, frameNumber := s.comp.frameNumber.toNat, slateColour := s.device.slateColour,
    slateAsset := s.device.slateAsset, op := s.timing.op, program := s.pgm.offered (s.timing.op = .hold),
    isoFeed := s.iso.feed, isoPicture := s.iso.offered (s.iso.feed = .hold), replay := s.presentedFrame,
    sponsors := vofFn fun l => s.sponsor.lanes[l].picture,
    messages := vofFn fun m => s.lanePicture m.castSucc, emergency := s.lanePicture 4,
    panels := s.active[tblPanels], score := s.score.frameCopy, clocks := vofFn fun c => s.clocks[c].frame,
    clockTable := s.active[tblClocks], assets := s.assets.recs, dram := s.assets.dram, pins := s.comp.pins }

/-- Stages 4 to 7 (R58). -/
def compose (s : State) : State :=
  let m := buildMap s
  let s1 := { s with comp.visible := countsOf s m }
  { updatePins s1 with comp.scene := some (sceneOf s m) }

end Sys2Proof.Machine
end

