-- ==== Sys2Proof/Machine/Frame.lean ====
section
/-! DEFINITION. The output frame start (R18): the parts of it that each block takes, in one order. Where the spec lets either
of two parts come first, the order is the operand `FrameOrder` (notes/assumptions/5.md). -/

namespace Sys2Proof.Machine

/-- The report slot and the status frame count, those of the two that stand on this side of the commits (R41, R42). -/
def reportStage (o : FrameOrder) (before : Bool) (s : State) : State :=
  let count := fun s => if o.countBeforeCommits = before then countFrame s else s
  let slot := fun s => if o.slotBeforeCommits = before then takeSlot s else s
  if o.countBeforeSlot then slot (count s) else count (slot s)

/-- The commits that no later stage of the frame start must come before: the group of six, UNIT, PANELS, CONTRACTS, LANES,
TEMPLATES and CONTACTS, and MEMORY and CUES where they are taken early (R33, R34, R67, R189). DESIGN CHOICE: several COMPLETE
loads are handed over in the order in which this definition names them, CONTRACTS before LANES by section 8.3
(notes/assumptions/34.md). -/
def earlyCommits (o : FrameOrder) (t : Time) (s : State) : State :=
  let s1 := handTable t tblUnit (handGroup t s)
  let s2 := if o.memoryBeforeReplay then handTable t tblMemory s1 else s1
  let s3 := handTable t tblTemplates (handTable t tblLanes (handTable t tblContracts (handTable t tblPanels s2)))
  handTable t tblContacts (if o.triggersBeforeCues then s3 else handTable t tblCues s3)

/-- The frame timing unit, the report slot, stage 1 of the sponsor scheduler and the commits (R15, R18, R33, R41, R152). -/
def frameOpening (o : FrameOrder) (t : Time) (s : State) : State :=
  let dt := elapsed s.timing.lastFrameStart t
  let s1 := takeFrameStart t s
  let s2 := if o.scheduleBeforeDevice then freeRun t s1 else s1
  let s3 := accrue dt (reportStage o true s2)
  let s4 := freeRun t (earlyCommits o t s3)
  reportStage o false s4

/-- The clock unit (R109): stages 1 to 4 of every channel, the commit, and the frame values. DESIGN CHOICE: the channels are taken in
number order, 0 to 3, which R109 leaves open (notes/assumptions/42.md). DESIGN CHOICE: the CLOCKS load is handed over behind those of
`earlyCommits` (notes/assumptions/34.md). -/
def clockUnitFrame (t : Time) (s : State) : State :=
  let s1 := (List.finRange 4).foldl (clockStages t) s
  (List.finRange 4).foldl (clockFrameValue t) (handTable t tblClocks s1)

/-- The frame copy of the score record (R137). -/
def scoreFrame (s : State) : State := { s with score.frameCopy := s.score.fields }

/-- The blocks' stages after the commits: feed states, clocks, layout selection, messages, player, sponsors, panels and
composition (R8, R58, R101, R109, R137, R151, R173). DESIGN CHOICE: a late MEMORY load is handed over behind the CLOCKS load
(notes/assumptions/34.md). -/
def frameStages (o : FrameOrder) (t : Time) (s : State) : State :=
  let s1 := clockUnitFrame t (feedFrame t .iso (feedFrame t .pgm s))
  let s2 := playerFrame t (messageStages t (selectLayout s1))
  let s3 := if o.memoryBeforeReplay then s2 else handTable t tblMemory s2
  compose (nextFrame (scoreFrame (sponsorStages s3)))

/-- An output frame start at `t`, with the triggers it raises taken by the cue unit after every block's stages (R18, R109,
R173, R189, R191). DESIGN CHOICE: a late CUES load is handed over last (notes/assumptions/34.md). -/
def frameStart (o : FrameOrder) (t : Time) (s : State) : State :=
  let s1 := settle (frameStages o t (frameOpening o t s))
  if o.triggersBeforeCues then handTable t tblCues s1 else s1

end Sys2Proof.Machine
end

