-- ==== Sys2Proof/Machine/Dispatching.lean ====
section
/-! DEFINITION. How a command and an event are taken: the count, the tests of the control channel that a command meets after
its KIND and LEN (R28), the refusal report (R29), and the triggers taken by the cue unit (R191). -/

namespace Sys2Proof.Machine

/-- What one command or event comes to. -/
abbrev Answer := Host.Outcome State Fault Refusal

/-- The reference count stands at `t` (R1). -/
def State.at (s : State) (t : Time) : State := { s with count := t }

/-- The health test and the owner's answer, with the REFUSAL report of a refused command (R28, R29). -/
def dispatch (k : Kind) (emergency : Bool) (op : State → Reply) (s : State) : State :=
  match healthGate s.health k emergency with
  | some why => raiseRefusal .packet k.code why s
  | none => (op s).done .packet k.code

/-- A command of KIND `k` taken at `t`. While RESETN is held low nothing is taken (R19). DESIGN CHOICE: a command that raises
several triggers raises them all before the cue unit takes the first (R191 does not say, notes/assumptions/44.md). -/
def command (t : Time) (k : Kind) (emergency : Bool) (op : State → Reply) (s : State) : Answer :=
  if s.inReset then .next s else .next (settle (dispatch k emergency op (s.at t)))

/-- A command whose LEN does not fit its kind is refused with BAD_LENGTH (R28, test 2). -/
def badLength (t : Time) (k : Kind) (s : State) : Answer :=
  if s.inReset then .next s else .next (settle (raiseRefusal .packet k.code .badLength (s.at t)))

/-- An event taken at `t`. While RESETN is held low nothing is taken (R19). DESIGN CHOICE: an event that raises several triggers,
as a bound stop edge raises CLOCK_EXPIRED and CONTACT, raises them all before the cue unit takes the first, so that they come
ahead of those that an action raises (R191 does not say, notes/assumptions/44.md). -/
def event (t : Time) (f : State → State) (s : State) : Answer := if s.inReset then .next s else .next (settle (f (s.at t)))

end Sys2Proof.Machine
end

