-- ==== Sys2Proof/Machine/Commands.lean ====
section
/-! DEFINITION. The meaning of each command of the command index, at its arrival time `t`. -/

namespace Sys2Proof.Machine

/-! ### Stream links and frame timing -/

/-- RESUME (R12). -/
def execResume (t : Time) (s : State) : Answer := command t .resume false (resumeOp t) s

/-! ### The control channel -/

/-- CONTROL_RESET (R46). -/
def execControlReset (t : Time) (s : State) : Answer := command t .controlReset false (controlResetOp t) s

/-- STATUS_REQUEST (R42). -/
def execStatusRequest (t : Time) (s : State) : Answer := command t .statusRequest false statusRequestOp s

/-- LOAD (R30, R31). FIRST is bit 0 of the flags byte and LAST bit 1. -/
def execLoad (t : Time) (table : Byte) (first : BitVec 16) (count flags : Byte) (entries : List Byte) (s : State) : Answer :=
  if loadFits table count entries then
    command t .load false
      (loadOp t table.toNat first.toNat count.toNat (flags.getLsbD 0) (flags.getLsbD 1) entries) s
  else badLength t .load s

/-- READ_TABLE (R36). -/
def execReadTable (t : Time) (table : Byte) (first : BitVec 16) (count : Byte) (s : State) : Answer :=
  command t .readTable false (readTableOp table.toNat first.toNat count.toNat) s

/-! ### Layouts -/

/-- LAYOUT_SELECT (R59). -/
def execLayoutSelect (t : Time) (layout : Byte) (s : State) : Answer :=
  command t .layoutSelect false (layoutSelectOp layout.toNat) s

/-! ### Asset store -/

/-- ASSET_OPEN (R71). -/
def execAssetOpen (t : Time) (id : BitVec 16) (kind : Byte) (width height : BitVec 16) (frames interval : Byte) (s : State) :
    Answer :=
  command t .assetOpen false (assetOpenOp t id.toNat kind.toNat width.toNat height.toNat frames.toNat interval.toNat) s

/-- ASSET_DATA (R73). Bytes that would be stored beyond the DRAM's addresses (R66) fault. -/
def execAssetData (t : Time) (id : BitVec 16) (offset : BitVec 40) (data : List Byte) (s : State) : Answer :=
  if segmentFits data = false then badLength t .assetData s
  else if s.inReset = false ∧ healthGate s.health .assetData false = none ∧ dataOutside id.toNat offset.toNat data s then
    .fault .dramAddress
  else command t .assetData false (assetDataOp t id.toNat offset.toNat data) s

/-- ASSET_CLOSE (R74). -/
def execAssetClose (t : Time) (id : BitVec 16) (check : BitVec 32) (s : State) : Answer :=
  command t .assetClose false (assetCloseOp id.toNat check) s

/-- ASSET_DROP (R78). -/
def execAssetDrop (t : Time) (id : BitVec 16) (s : State) : Answer := command t .assetDrop false (assetDropOp id.toNat) s

/-! ### Replay -/

/-- RECORD_START (R85). -/
def execRecordStart (t : Time) (source : Byte) (s : State) : Answer :=
  command t .recordStart false (recordStartOp source.toNat) s

/-- RECORD_STOP (R86). -/
def execRecordStop (t : Time) (s : State) : Answer := command t .recordStop false (fun s => accept (recorderStop s)) s

/-- MARK_IN (R92). -/
def execMarkIn (t : Time) (mark point : Byte) (number : BitVec 32) (label : BitVec 16) (s : State) : Answer :=
  command t .markIn false (markInOp mark.toNat point.toNat number.toNat label.toNat) s

/-- MARK_OUT (R93). -/
def execMarkOut (t : Time) (mark point : Byte) (number : BitVec 32) (s : State) : Answer :=
  command t .markOut false (markOutOp mark.toNat point.toNat number.toNat) s

/-- MARK_CLEAR (R94). -/
def execMarkClear (t : Time) (mark : Byte) (s : State) : Answer := command t .markClear false (markClearOp mark.toNat) s

/-- CUE (R97). -/
def execCue (t : Time) (mark : Byte) (s : State) : Answer := command t .cue false (cueOp mark.toNat) s

/-- PLAY (R97). -/
def execPlay (t : Time) (mark n d endAction : Byte) (s : State) : Answer :=
  command t .play false (playOp mark.toNat n.toNat d.toNat endAction.toNat) s

/-- PAUSE (R98). -/
def execPause (t : Time) (s : State) : Answer := command t .pause false pauseOp s

/-- CONTINUE (R98). -/
def execContinuePlay (t : Time) (s : State) : Answer := command t .continuePlay false continueOp s

/-- STEP (R99). The count is signed. -/
def execStep (t : Time) (amount : BitVec 16) (s : State) : Answer := command t .step false (stepOp amount.toInt) s

/-- PLAYER_STOP (R100). -/
def execPlayerStop (t : Time) (s : State) : Answer := command t .playerStop false (fun s => accept (playerStop s)) s

/-! ### Clocks -/

/-- CLOCK_START (R119). -/
def execClockStart (t : Time) (channel : Byte) (s : State) : Answer :=
  command t .clockStart false (clockStartOp t channel.toNat) s

/-- CLOCK_STOP (R120). -/
def execClockStop (t : Time) (channel : Byte) (s : State) : Answer :=
  command t .clockStop false (clockStopOp t channel.toNat) s

/-- CLOCK_SET (R121). -/
def execClockSet (t : Time) (channel : Byte) (ms : BitVec 32) (s : State) : Answer :=
  command t .clockSet false (clockSetOp t channel.toNat ms.toNat) s

/-- CLOCK_ADJUST (R122). The amount is signed. -/
def execClockAdjust (t : Time) (channel : Byte) (ms : BitVec 32) (s : State) : Answer :=
  command t .clockAdjust false (clockAdjustOp t channel.toNat ms.toInt) s

/-- CLOCK_PRESET (R123). -/
def execClockPreset (t : Time) (channel : Byte) (s : State) : Answer :=
  command t .clockPreset false (clockPresetOp t channel.toNat) s

/-- CLOCK_REPORT (R114). -/
def execClockReport (t : Time) (channel : Byte) (ms : BitVec 32) (running : Byte) (s : State) : Answer :=
  command t .clockReport false (clockReportOp t channel.toNat ms.toNat running.toNat) s

/-! ### Score -/

/-- SCORE_SET (R131). The value is signed. -/
def execScoreSet (t : Time) (field : Byte) (value : BitVec 16) (s : State) : Answer :=
  command t .scoreSet false (scoreSetOp t field.toNat value.toInt) s

/-- SCORE_ADD (R132). The delta is signed. -/
def execScoreAdd (t : Time) (field : Byte) (delta : BitVec 16) (s : State) : Answer :=
  command t .scoreAdd false (scoreAddOp t field.toNat delta.toInt) s

/-! ### Sponsors -/

/-- CONTRACT_PAUSE (R162). -/
def execContractPause (t : Time) (contract : Byte) (s : State) : Answer :=
  command t .contractPause false (contractPauseOp contract.toNat) s

/-- CONTRACT_RESUME (R162). -/
def execContractResume (t : Time) (contract : Byte) (s : State) : Answer :=
  command t .contractResume false (contractResumeOp contract.toNat) s

/-- PERIOD_CLOSE (R163). -/
def execPeriodClose (t : Time) (s : State) : Answer := command t .periodClose false periodCloseOp s

/-- SETTLE_REMOVE (R165). -/
def execSettleRemove (t : Time) (n : Byte) (s : State) : Answer := command t .settleRemove false (settleRemoveOp n.toNat) s

/-! ### Messages -/

/-- The fields of a POST payload (R168). -/
def postFields (tag : BitVec 16) (cls : Byte) (strip : BitVec 16) (lane mode : Byte) (pace : BitVec 16) (repeats : Byte)
    (lifetime : BitVec 16) : PostFields :=
  { tag := tag.toNat, cls := cls.toNat, strip := strip.toNat, lane := lane.toNat, mode := mode.toNat, pace := pace.toNat,
    repeats := repeats.toNat, lifetime := lifetime.toNat }

/-- POST (R168). For the health test its class is read from the payload (R28). -/
def execPost (t : Time) (tag : BitVec 16) (cls : Byte) (strip : BitVec 16) (lane mode : Byte) (pace : BitVec 16)
    (repeats : Byte) (lifetime : BitVec 16) (s : State) : Answer :=
  command t .post (cls.toNat = 0) (postOp t (postFields tag cls strip lane mode pace repeats lifetime)) s

/-- WITHDRAW (R170). -/
def execWithdraw (t : Time) (tag : BitVec 16) (s : State) : Answer := command t .withdraw false (withdrawOp t tag.toNat) s

/-- CLEAR_CLASS (R171). -/
def execClearClass (t : Time) (cls : Byte) (s : State) : Answer := command t .clearClass false (clearClassOp t cls.toNat) s

/-! ### Horn and cues -/

/-- HORN (R188). -/
def execHorn (t : Time) (ms : BitVec 16) (s : State) : Answer := command t .horn false (hornOp t ms.toNat) s

/-- CUE_ARM (R193). -/
def execCueArm (t : Time) (index : Byte) (s : State) : Answer := command t .cueArm false (cueArmOp index.toNat true) s

/-- CUE_DISARM (R193). -/
def execCueDisarm (t : Time) (index : Byte) (s : State) : Answer := command t .cueDisarm false (cueArmOp index.toNat false) s

end Sys2Proof.Machine
end

