-- ==== Sys2Proof/Machine/Events.lean ====
section
/-! DEFINITION. The meaning of each event: resets, the inputs, the timers, the output frame start, a packet's arrival, the
contact lines and the horn. -/

namespace Sys2Proof.Machine

/-! ### Resets and start-up -/

/-- DEVICE_RESET (R19): every piece of state takes its device reset value. The commands that wait are the model's own. -/
def execDeviceReset (pins : Pins) (s : State) : Answer := .next { State.released pins with pending := s.pending }

/-- RESETN_HELD_LOW (R19, R188): no frame start is scheduled, no report and no picture is sent, and the horn line is low. -/
def execResetnHeldLow (t : Time) (s : State) : Answer :=
  .next { s with count := t, inReset := true, cues.horn := none, timing.schedule := [], control.sent := none,
                 comp.scene := none }

/-- The end of DRAM initialization at `t`: SEEKING, and LIVE at once if PGM is LOCKED, and the unattended timer starts
(R10, R19, R43). DEDUCED: on the way to LIVE the state passes through SEEKING, with a FEED report of its own
(notes/assumptions/37.md). -/
def dramReady (t : Time) (s : State) : State :=
  if s.timing.op = .start then
    let s1 := restartUnattended t (setOp .seeking s)
    if s1.pgm.isLocked then enterLive t s1 else s1
  else s

/-- DRAM_INIT_DONE (R10, R19). -/
def execDramInitDone (t : Time) (s : State) : Answer := event t (dramReady t) s

/-! ### Inputs -/

/-- SIGNAL_PRESENT (R3). -/
def execSignalPresent (t : Time) (i : InputId) (s : State) : Answer := event t (signalOn i) s

/-- SIGNAL_ABSENT (R3, R4). -/
def execSignalAbsent (t : Time) (i : InputId) (s : State) : Answer := event t (signalOff t i) s

/-- INPUT_FRAME_START (R2). -/
def execInputFrameStart (t : Time) (i : InputId) (f : InputFrame) (s : State) : Answer := event t (inputFrame t i f) s

/-- ACQUIRING_FRAME_TIMEOUT (R3). -/
def execAcquiringFrameTimeout (t : Time) (i : InputId) (s : State) : Answer := event t (acquiringTimeout t i) s

/-- LOCKED_FRAME_TIMEOUT (R4). -/
def execLockedFrameTimeout (t : Time) (i : InputId) (s : State) : Answer := event t (lockedTimeout t i) s

/-- HOLD_TIMER_EXPIRY (R8, R10), when the timer has run out. -/
def execHoldTimerExpiry (t : Time) (i : InputId) (s : State) : Answer :=
  event t (fun s => if due (s.receiver i).holdTimer t then holdExpired t i s else s) s

/-- RELOCK_WINDOW_EXPIRY (R11), when the timer has run out. -/
def execRelockWindowExpiry (t : Time) (s : State) : Answer :=
  event t (fun s =>
    if due s.timing.relockWindow t then { s with timing.relockCount := 0, timing.relockWindow := none } else s) s

/-! ### The output frame start -/

/-- OUTPUT_FRAME_START (R18), when one is scheduled for this instant. -/
def execOutputFrameStart (t : Time) (o : FrameOrder) (s : State) : Answer :=
  event t (fun s => if frameScheduled t s then frameStart o t s else s) s

/-! ### A packet's arrival -/

/-- The control source lets a packet of input `i` through (R22). -/
def sourceSelects (s : State) (i : InputId) : Bool :=
  match s.unit.source with
  | .pgmOnly => i = .pgm
  | .isoOnly => i = .iso
  | .pgmPreferred => if s.pgm.isLocked then i = .pgm else i = .iso ∧ s.iso.isLocked

/-- The channel examines these bytes of input `i`'s frame: they begin a packet, of a frame whose structure is valid, outside
START, from the input the control source selects, and fewer than 16 of its packets have been examined (R7, R22, R23).
DESIGN CHOICE: the 16 are packets examined, not positions in the frame (notes/assumptions/33.md). -/
def examined (s : State) (i : InputId) (bytes : List Byte) : Bool :=
  s.timing.op ≠ .start ∧ startsPacket bytes ∧ (s.receiver i).structureValid ∧ sourceSelects s i ∧
    (s.receiver i).packetCount < Config.packetsPerFrame

/-- A packet with a correct check is addressed to this part (R25). -/
def accepted (u : UnitCfg) (p : Packet) : Bool :=
  let dest := p.dest.setWidth 12
  (dest = 0xFFF ∨ dest &&& u.mask = u.address &&& u.mask) ∧ (p.group = 0 ∨ p.group &&& u.groups ≠ 0)

/-- The command of an accepted packet goes to its owner. -/
def runCommand (c : Instr) (s : State) : Answer :=
  match c with
  | .resume t => execResume t s
  | .controlReset t => execControlReset t s
  | .statusRequest t => execStatusRequest t s
  | .load t table first count flags entries => execLoad t table first count flags entries s
  | .readTable t table first count => execReadTable t table first count s
  | .layoutSelect t layout => execLayoutSelect t layout s
  | .assetOpen t id kind width height frames interval => execAssetOpen t id kind width height frames interval s
  | .assetData t id offset data => execAssetData t id offset data s
  | .assetClose t id check => execAssetClose t id check s
  | .assetDrop t id => execAssetDrop t id s
  | .recordStart t source => execRecordStart t source s
  | .recordStop t => execRecordStop t s
  | .markIn t mark point number label => execMarkIn t mark point number label s
  | .markOut t mark point number => execMarkOut t mark point number s
  | .markClear t mark => execMarkClear t mark s
  | .cue t mark => execCue t mark s
  | .play t mark n d endAction => execPlay t mark n d endAction s
  | .pause t => execPause t s
  | .continuePlay t => execContinuePlay t s
  | .step t amount => execStep t amount s
  | .playerStop t => execPlayerStop t s
  | .clockStart t channel => execClockStart t channel s
  | .clockStop t channel => execClockStop t channel s
  | .clockSet t channel ms => execClockSet t channel ms s
  | .clockAdjust t channel ms => execClockAdjust t channel ms s
  | .clockPreset t channel => execClockPreset t channel s
  | .clockReport t channel ms running => execClockReport t channel ms running s
  | .scoreSet t field value => execScoreSet t field value s
  | .scoreAdd t field delta => execScoreAdd t field delta s
  | .contractPause t contract => execContractPause t contract s
  | .contractResume t contract => execContractResume t contract s
  | .periodClose t => execPeriodClose t s
  | .settleRemove t n => execSettleRemove t n s
  | .post t tag cls strip lane mode pace repeats lifetime => execPost t tag cls strip lane mode pace repeats lifetime s
  | .withdraw t tag => execWithdraw t tag s
  | .clearClass t cls => execClearClass t cls s
  | .horn t ms => execHorn t ms s
  | .cueArm t index => execCueArm t index s
  | .cueDisarm t index => execCueDisarm t index s
  | _ => .next s

/-- An accepted packet: it restarts the unattended timer and its command is dispatched, KIND first and then LEN
(R25, R28). -/
def acceptPacket (t : Time) (p : Packet) (s : State) : Answer :=
  let s1 := attend t s
  match kindOf? p.kind with
  | none => .next (raiseRefusal .packet p.kind.toNat .unknownKind s1)
  | some k =>
    match decodePayload t k p.payload with
    | none => .next (raiseRefusal .packet p.kind.toNat .badLength s1)
    | some c => runCommand c s1

/-- The packet joins those examined from the frame now arriving on input `i` (R22). DESIGN CHOICE: a packet that is not examined
uses none of the 16 (notes/assumptions/33.md). -/
def countPacket (i : InputId) (s : State) : State :=
  s.setReceiver i { s.receiver i with packetCount := (s.receiver i).packetCount + 1 }

/-- An examined packet: health first, then its address (R25, R26). -/
def examinePacket (t : Time) (bytes : List Byte) (s : State) : Answer :=
  match readPacket? bytes with
  | none => .next (setHealth (healthAfter false s.control.health) s)
  | some p =>
    let s1 := setHealth (healthAfter true s.control.health) s
    if accepted s1.unit p then acceptPacket t p s1 else .next s1

/-- PACKET_ARRIVAL (R22 to R28). A packet that is not examined has no effect. -/
def execPacketArrival (t : Time) (i : InputId) (bytes : List Byte) (s : State) : Answer :=
  if s.inReset then .next s
  else if examined s i bytes then examinePacket t bytes (countPacket i (s.at t))
  else .next (s.at t)

/-! ### The control channel's and the asset store's timers -/

/-- LOAD_TIMER_EXPIRY (R32). -/
def execLoadTimerExpiry (t : Time) (table : Fin 15) (s : State) : Answer := event t (loadTimeout t table) s

/-- UNATTENDED_TIMER_EXPIRY (R43). -/
def execUnattendedTimerExpiry (t : Time) (s : State) : Answer := event t (unattendedExpiry t) s

/-- ASSET_LOAD_TIMER_EXPIRY (R75). -/
def execAssetLoadTimerExpiry (t : Time) (id : AssetId) (s : State) : Answer := event t (assetTimeout t id) s

/-! ### Contact lines and horn -/

/-- CONTACT_LEVEL_CHANGE (R185). -/
def execContactLevelChange (t : Time) (line : Fin 4) (high : Bool) (s : State) : Answer := event t (lineChange t line high) s

/-- CONTACT_FILTER_EXPIRY (R185, R186). -/
def execContactFilterExpiry (t : Time) (line : Fin 4) (s : State) : Answer := event t (filterExpiry t line) s

/-- HORN_END (R188). -/
def execHornEnd (t : Time) (s : State) : Answer := event t (endHorn t) s

end Sys2Proof.Machine
end

