-- ==== Sys2Proof/Machine/Dispatch.lean ====
section
/-! DEFINITION. One arm for each command and event, each a direct call of its meaning. -/

namespace Sys2Proof.Machine

def exec (i : Instr) (s : State) : Host.Outcome State Fault Refusal :=
  match i with
  | .deviceReset pins => Sys2Proof.Machine.execDeviceReset pins s
  | .dramInitDone t => Sys2Proof.Machine.execDramInitDone t s
  | .signalPresent t inp => Sys2Proof.Machine.execSignalPresent t inp s
  | .signalAbsent t inp => Sys2Proof.Machine.execSignalAbsent t inp s
  | .inputFrameStart t inp f => Sys2Proof.Machine.execInputFrameStart t inp f s
  | .acquiringFrameTimeout t inp => Sys2Proof.Machine.execAcquiringFrameTimeout t inp s
  | .lockedFrameTimeout t inp => Sys2Proof.Machine.execLockedFrameTimeout t inp s
  | .holdTimerExpiry t inp => Sys2Proof.Machine.execHoldTimerExpiry t inp s
  | .relockWindowExpiry t => Sys2Proof.Machine.execRelockWindowExpiry t s
  | .outputFrameStart t o => Sys2Proof.Machine.execOutputFrameStart t o s
  | .packetArrival t inp bytes => Sys2Proof.Machine.execPacketArrival t inp bytes s
  | .resume t => Sys2Proof.Machine.execResume t s
  | .controlReset t => Sys2Proof.Machine.execControlReset t s
  | .statusRequest t => Sys2Proof.Machine.execStatusRequest t s
  | .load t table first count flags entries => Sys2Proof.Machine.execLoad t table first count flags entries s
  | .readTable t table first count => Sys2Proof.Machine.execReadTable t table first count s
  | .layoutSelect t layout => Sys2Proof.Machine.execLayoutSelect t layout s
  | .assetOpen t id kind width height frames interval => Sys2Proof.Machine.execAssetOpen t id kind width height frames interval s
  | .assetData t id offset data => Sys2Proof.Machine.execAssetData t id offset data s
  | .assetClose t id check => Sys2Proof.Machine.execAssetClose t id check s
  | .assetDrop t id => Sys2Proof.Machine.execAssetDrop t id s
  | .recordStart t source => Sys2Proof.Machine.execRecordStart t source s
  | .recordStop t => Sys2Proof.Machine.execRecordStop t s
  | .markIn t mark point number label => Sys2Proof.Machine.execMarkIn t mark point number label s
  | .markOut t mark point number => Sys2Proof.Machine.execMarkOut t mark point number s
  | .markClear t mark => Sys2Proof.Machine.execMarkClear t mark s
  | .cue t mark => Sys2Proof.Machine.execCue t mark s
  | .play t mark n d endAction => Sys2Proof.Machine.execPlay t mark n d endAction s
  | .pause t => Sys2Proof.Machine.execPause t s
  | .continuePlay t => Sys2Proof.Machine.execContinuePlay t s
  | .step t amount => Sys2Proof.Machine.execStep t amount s
  | .playerStop t => Sys2Proof.Machine.execPlayerStop t s
  | .clockStart t channel => Sys2Proof.Machine.execClockStart t channel s
  | .clockStop t channel => Sys2Proof.Machine.execClockStop t channel s
  | .clockSet t channel ms => Sys2Proof.Machine.execClockSet t channel ms s
  | .clockAdjust t channel ms => Sys2Proof.Machine.execClockAdjust t channel ms s
  | .clockPreset t channel => Sys2Proof.Machine.execClockPreset t channel s
  | .clockReport t channel ms running => Sys2Proof.Machine.execClockReport t channel ms running s
  | .scoreSet t field value => Sys2Proof.Machine.execScoreSet t field value s
  | .scoreAdd t field delta => Sys2Proof.Machine.execScoreAdd t field delta s
  | .contractPause t contract => Sys2Proof.Machine.execContractPause t contract s
  | .contractResume t contract => Sys2Proof.Machine.execContractResume t contract s
  | .periodClose t => Sys2Proof.Machine.execPeriodClose t s
  | .settleRemove t n => Sys2Proof.Machine.execSettleRemove t n s
  | .post t tag cls strip lane mode pace repeats lifetime => Sys2Proof.Machine.execPost t tag cls strip lane mode pace repeats lifetime s
  | .withdraw t tag => Sys2Proof.Machine.execWithdraw t tag s
  | .clearClass t cls => Sys2Proof.Machine.execClearClass t cls s
  | .horn t ms => Sys2Proof.Machine.execHorn t ms s
  | .cueArm t index => Sys2Proof.Machine.execCueArm t index s
  | .cueDisarm t index => Sys2Proof.Machine.execCueDisarm t index s
  | .loadTimerExpiry t table => Sys2Proof.Machine.execLoadTimerExpiry t table s
  | .unattendedTimerExpiry t => Sys2Proof.Machine.execUnattendedTimerExpiry t s
  | .assetLoadTimerExpiry t id => Sys2Proof.Machine.execAssetLoadTimerExpiry t id s
  | .contactLevelChange t line high => Sys2Proof.Machine.execContactLevelChange t line high s
  | .contactFilterExpiry t line => Sys2Proof.Machine.execContactFilterExpiry t line s
  | .hornEnd t => Sys2Proof.Machine.execHornEnd t s
  | .resetnHeldLow t => Sys2Proof.Machine.execResetnHeldLow t s

end Sys2Proof.Machine
end

