-- ==== Sys2Proof/WellFormed.lean ====
section
/-! DEFINITION. The commands and events that the links, pins and timers of the part can bring: what their operands must
satisfy. A command's out of range values are well formed: the part refuses them itself. -/

namespace Sys2Proof

open Machine

/-- A picture has a pixel for every place of its size. -/
def Picture.wellFormed (p : Picture) : Bool := p.pixels.length = p.width * p.height

/-- What an input frame, a packet and the payload of a command can be (R2, R23, R30, R73). -/
def Instr.wellFormed : Instr → Bool
  | .inputFrameStart _ _ f => f.picture.wellFormed
  | .packetArrival _ _ bytes => startsPacket bytes ∧ bytes.length ≤ Config.maxPayload + 10
  | .load _ table _ count _ entries => loadFits table count entries ∧ entries.length ≤ Config.maxPayload - 5
  | .assetData _ _ _ data => segmentFits data
  | .deviceReset _ => true
  | .dramInitDone _ => true
  | .signalPresent _ _ => true
  | .signalAbsent _ _ => true
  | .acquiringFrameTimeout _ _ => true
  | .lockedFrameTimeout _ _ => true
  | .holdTimerExpiry _ _ => true
  | .relockWindowExpiry _ => true
  | .outputFrameStart _ _ => true
  | .resume _ => true
  | .controlReset _ => true
  | .statusRequest _ => true
  | .readTable _ _ _ _ => true
  | .layoutSelect _ _ => true
  | .assetOpen _ _ _ _ _ _ _ => true
  | .assetClose _ _ _ => true
  | .assetDrop _ _ => true
  | .recordStart _ _ => true
  | .recordStop _ => true
  | .markIn _ _ _ _ _ => true
  | .markOut _ _ _ _ => true
  | .markClear _ _ => true
  | .cue _ _ => true
  | .play _ _ _ _ _ => true
  | .pause _ => true
  | .continuePlay _ => true
  | .step _ _ => true
  | .playerStop _ => true
  | .clockStart _ _ => true
  | .clockStop _ _ => true
  | .clockSet _ _ _ => true
  | .clockAdjust _ _ _ => true
  | .clockPreset _ _ => true
  | .clockReport _ _ _ _ => true
  | .scoreSet _ _ _ => true
  | .scoreAdd _ _ _ => true
  | .contractPause _ _ => true
  | .contractResume _ _ => true
  | .periodClose _ => true
  | .settleRemove _ _ => true
  | .post _ _ _ _ _ _ _ _ _ => true
  | .withdraw _ _ => true
  | .clearClass _ _ => true
  | .horn _ _ => true
  | .cueArm _ _ => true
  | .cueDisarm _ _ => true
  | .loadTimerExpiry _ _ => true
  | .unattendedTimerExpiry _ => true
  | .assetLoadTimerExpiry _ _ => true
  | .contactLevelChange _ _ _ => true
  | .contactFilterExpiry _ _ => true
  | .hornEnd _ => true
  | .resetnHeldLow _ => true

end Sys2Proof
end

