-- ==== Sys2Proof/Safety.lean ====
section
/-! DEFINITION. What a safe run is, in the terms the statements use: the laws of the device as predicates on a state, and when
the part takes a command. -/

namespace Sys2Proof.Machine

/-- The part takes a command of KIND `k` as its owner gives it: RESETN is not low, no trigger waits, and the health state lets
the command through (R19, R28, R191). `emergency` tells that a POST's class is EMERGENCY. -/
def State.takes (s : State) (k : Kind) (emergency : Bool := false) : Prop :=
  s.inReset = false ∧ s.cues.pendingTriggers = [] ∧ healthGate s.health k emergency = none

/-- The part takes an event: RESETN is not low and no trigger waits. -/
def State.quiet (s : State) : Prop := s.inReset = false ∧ s.cues.pendingTriggers = []

/-- The part after it has refused a command of KIND `k` at `t`: the count, and one REFUSAL report (R29). -/
def State.refusing (s : State) (t : Time) (k : Kind) (why : Reason) : State := raiseRefusal .packet k.code why (s.at t)

/-- No cue is armed, so that no trigger fires one (R191). -/
def State.unarmed (s : State) : Prop := ∀ i : Fin 32, s.cues.records[i].armed = false

/-- `u` has the tables, the compositor, the clocks, the score, the sponsor scheduler, the player, the cue records, the contact
lines, the horn, the pins and the waiting commands of `s`: the frame of what the inputs and the message unit do. -/
def State.keeps (s u : State) : Prop :=
  u.active = s.active ∧ u.comp = s.comp ∧ u.clocks = s.clocks ∧ u.score = s.score ∧ u.sponsor = s.sponsor ∧
    u.replay.player = s.replay.player ∧ u.cues.records = s.cues.records ∧ u.cues.lines = s.cues.lines ∧
    u.cues.horn = s.cues.horn ∧ u.pins = s.pins ∧ u.inReset = s.inReset ∧ u.pending = s.pending

/-- The lock state and the runs of a receiver after a frame of class `c` (R3, R4). -/
def Receiver.runsAfter (r : Receiver) (c : FrameClass) : Lock × Option Rate × Nat × Nat :=
  match r.lock, c with
  | .absent, _ => (.absent, r.runRate, r.goodRun, r.badRun)
  | .acquiring, .unmeasured => (.acquiring, r.runRate, r.goodRun, r.badRun)
  | .acquiring, .bad => (.acquiring, r.runRate, 0, min 3 (r.badRun + 1))
  | .acquiring, .good rate =>
    if r.runRate = some rate then
      (if 8 ≤ r.goodRun + 1 then .locked rate else .acquiring, some rate, min 8 (r.goodRun + 1), 0)
    else (.acquiring, some rate, 1, 0)
  | .locked rate, .unmeasured => (.locked rate, r.runRate, r.goodRun, r.badRun)
  | .locked rate, .good x =>
    if x = rate then (.locked rate, r.runRate, min 8 (r.goodRun + 1), 0)
    else if 3 ≤ r.badRun + 1 then (.acquiring, none, 0, 0) else (.locked rate, r.runRate, 0, r.badRun + 1)
  | .locked rate, .bad =>
    if 3 ≤ r.badRun + 1 then (.acquiring, none, 0, 0) else (.locked rate, r.runRate, 0, r.badRun + 1)

/-- The frame timing unit after an entry into LIVE at `t` with PGM LOCKED at `rate`: the free-run frame start is cancelled, and
one nominal period after the latest PGM input frame start is scheduled if it comes after the entry and shortens no frame;
otherwise the realignment waits for a later PGM frame (R10, R16). -/
def State.timingLive (s : State) (t : Time) (rate : Rate) : Timing :=
  let waiting : Timing := { s.timing with op := .live, schedule := [], realigning := true }
  match s.pgm.latest with
  | none => waiting
  | some l =>
    let y := after l (nominal rate)
    if reached t y = true ∧ y ≠ t ∧ reached (after s.timing.lastFrameStart s.timing.outputPeriod) y = true then
      { s.timing with op := .live, schedule := [y], realigning := false }
    else waiting

/-- The hold timer of input `i` starts when the input leaves LOCKED: its feed is LIVE or the timer is stopped (R8). -/
abbrev State.holdStarts (s : State) (i : InputId) : Prop := (s.receiver i).feed = .live ∨ (s.receiver i).holdTimer = none

/-- The hold timer that starts when input `i` leaves LOCKED expires at once: the hold time is 0 (R8). -/
abbrev State.holdEnds (s : State) (i : InputId) : Prop := s.holdStarts i ∧ s.device.holdMs = 0

/-- Raise a FEED report: subject 0 PGM, 1 ISO or 2 OPERATING, with the new state's code (R9, R10, R38). -/
def State.feedReport (s : State) (subject : Nat) (code : Byte) : State := raise .feed 0 subject [code] s

/-- The topic item and the cue index of an input: 0 PGM, 1 ISO (R9, R38, R190). -/
def feedItem (i : InputId) : Nat := if i = .pgm then 0 else 1

/-- `s` with the FEED reports raised that input `i` leaving LOCKED raises: the feed's HOLD, then the operating state's HOLD, and,
where the hold timer expires at once, the feed's SLATE and the operating state's FALLBACK (R8 to R10). That an input's report comes
before the operating state's is the model's choice (notes/assumptions/30.md). -/
def State.lossReported (s : State) (i : InputId) : State :=
  let s1 := if (s.receiver i).feed = .live then s.feedReport (feedItem i) 1 else s
  let s2 := if i = .pgm ∧ s.timing.op = .live then s1.feedReport 2 3 else s1
  let s3 := if s.holdEnds i ∧ (s.receiver i).feed ≠ .slate then s2.feedReport (feedItem i) 2 else s2
  if s.holdEnds i ∧ i = .pgm ∧ (s.timing.op = .live ∨ s.timing.op = .hold) then s3.feedReport 2 4 else s3

/-- The FEED triggers that input `i` leaving LOCKED at `t` sends: one for each change of its feed state (R8, R9). -/
def State.lossTriggers (s : State) (t : Time) (i : InputId) : List Trigger :=
  (if (s.receiver i).feed = .live then [⟨t, .feed i .hold⟩] else []) ++
    if s.holdEnds i ∧ (s.receiver i).feed ≠ .slate then [⟨t, .feed i .slate⟩] else []

/-- `u` is what the cue unit leaves when input `i` of `s` has left LOCKED at `t` and nothing else has raised a report: the FEED
reports are queued, and the cue unit has taken the FEED triggers (R8 to R10, R191). -/
def State.lossAnnounced (s : State) (t : Time) (i : InputId) (u : State) : Prop :=
  (∃ v : State, u = settle v ∧ v.control = (s.lossReported i).control ∧
      v.cues = { s.cues with pendingTriggers := s.lossTriggers t i }) ∧
    (s.unarmed → u.control = (s.lossReported i).control)

/-- The recorder takes no frame of input `i` while its feed is not LIVE: it has another source, is IDLE or WAIT, or goes to WAIT as
the feed leaves LIVE (R87, R88). -/
def State.recorderRests (s : State) (i : InputId) : Prop :=
  s.replay.recorder.source ≠ i ∨ s.replay.recorder.state = .idle ∨ s.replay.recorder.state = .wait ∨
    (s.receiver i).feed = .live

/-- Nothing but the control channel and the feeds has a report or a trigger to raise at the next frame start: the message queue is
empty, the player is not PLAYING, one that is SUSPENDED was not PLAYING in the frame that ends, and every clock channel is LOCAL, not RUNNING and displays its value already. -/
def State.still (s : State) : Prop :=
  s.msgs.queue = [] ∧ s.replay.player.state ≠ .playing ∧
    (s.replay.player.state = .suspended → s.replay.player.frameState ≠ .playing) ∧
    ∀ c : Fin 4, (s.clockCfg c).console = false ∧ s.clocks[c].state ≠ .running ∧ s.clocks[c].frame.state = s.clocks[c].state ∧
      s.clocks[c].frameTenths = displayTenths (s.clockCfg c).direction (s.clockCfg c).tenths s.clocks[c].value

/-- `u` has the feed state, the hold timer, the held frame and the frame timing unit that are left when input `i` of `s` leaves
LOCKED at `t` (R8, R10, R17). What HOLD offers is the frozen frame as it stands when the feed, or with PGM the operating state,
leaves LIVE: the model's deduction (notes/assumptions/32.md). -/
def State.afterLoss (s : State) (t : Time) (i : InputId) (u : State) : Prop :=
  (s.holdStarts i → (u.receiver i).holdTimer =
    if s.device.holdMs = 0 then none else some (after t (s.device.holdMs * Config.ticksPerMs))) ∧
  (¬ s.holdStarts i → (u.receiver i).holdTimer = (s.receiver i).holdTimer) ∧
  ((s.receiver i).feed = .slate → (u.receiver i).feed = .slate) ∧
  ((s.receiver i).feed ≠ .slate → s.holdStarts i → (u.receiver i).feed = if s.device.holdMs = 0 then .slate else .hold) ∧
  ((s.receiver i).feed ≠ .slate → ¬ s.holdStarts i → (u.receiver i).feed = .hold) ∧
  ((s.receiver i).feed = .live ∨ (i = .pgm ∧ s.timing.op = .live) → (u.receiver i).held = (u.receiver i).frozen) ∧
  (¬ ((s.receiver i).feed = .live ∨ (i = .pgm ∧ s.timing.op = .live)) → (u.receiver i).held = (s.receiver i).held) ∧
  (i = .iso → u.timing = s.timing) ∧
  (i = .pgm → s.timing.op = .live → ∃ op, u.timing =
      { s.timing with op := op, realigning := false,
                      schedule := if s.timing.schedule = [] then
                          [later (after s.timing.lastFrameStart s.timing.outputPeriod) t] else s.timing.schedule } ∧
      (s.holdStarts i → op = if s.device.holdMs = 0 then .fallback else .hold) ∧ (¬ s.holdStarts i → op = .hold)) ∧
  (i = .pgm → s.timing.op = .hold → s.holdEnds i → u.timing = { s.timing with op := .fallback }) ∧
  (i = .pgm → s.timing.op ≠ .live → ¬ (s.timing.op = .hold ∧ s.holdEnds i) → u.timing = s.timing)

/-- `u` has the recorder of `s` after a change of input `i`'s feed away from LIVE, if there was one: a RECORDING or HELD recorder
of that source goes to WAIT (R87). -/
def State.recorderWaits (s : State) (i : InputId) (u : State) : Prop :=
  u.replay.recorder = if (u.receiver i).feed ≠ (s.receiver i).feed ∧ s.replay.recorder.source = i ∧
      (s.replay.recorder.state = .recording ∨ s.replay.recorder.state = .held)
    then { s.replay.recorder with state := .wait } else s.replay.recorder

/-- A clock channel after a CLOCKS commit at `t` that gives it `new` in place of `old` (R128). That an EXPIRED UP channel whose limit
is raised keeps its state and its value is the model's choice (notes/assumptions/43.md). -/
def Clock.recommitted (k : Clock) (t : Time) (old new : ClockCfg) : Clock :=
  let turned := old.direction ≠ new.direction ∧ k.state ≠ .stopped
  { k with
    state := if turned then .stopped else k.state
    correction := if turned then 0 else k.correction
    console := if old.console = true ∧ new.console = false then none else k.console
    stale := if old.console = true ∧ new.console = false then false else k.stale
    lastReport := if old.console = false ∧ new.console = true then some t else k.lastReport }

/-- An accrual record after a CONTRACTS commit that gives its contract `new` in place of `old`: VACANT with key 0, kept with the
same key, with the met flag by the new target, and begun anew with another (R148). -/
def Accrual.recommitted (a : Accrual) (old new : ContractCfg) : Accrual :=
  if new.key ≠ 0 ∧ old.key = new.key then { a with met := decide (new.target ≤ a.accrued) }
  else { state := if new.key = 0 then .vacant else .active, accrued := 0, remainder := 0, met := false, period := 0, wall := 0,
         creative := 3 }

/-- A cue record after a CUES commit that gives its cue the entry `new` in place of `old`: a change in bytes 0 to 12 sets the armed
flag from the arm byte and the fire count to 0 (R189). -/
def CueRecord.recommitted (r : CueRecord) (old new : List Byte) : CueRecord :=
  if old.take 13 = new.take 13 then r else { r with armed := decide (byteAt new 0 = 1), fires := 0 }

/-- Lane `l` of the sponsor scheduler comes to the end of its dwell at stage 3 of a frame start: takeover is clear and no more
than one frame is left (R157). -/
def State.dwellEnds (s : State) (l : Fin 8) : Prop := s.msgs.takeover = false ∧ s.sponsor.lanes[l].framesLeft ≤ 1

/-- An entry that a POST of class `k` may push out of a full queue, if it is not showing (R169). -/
def MessageClass.pushes (k : MessageClass) (e : Message) : Prop :=
  (k = .lead ∧ e.cls = .standard) ∨ (k = .emergency ∧ e.cls ≠ .emergency)

/-! ### The laws of the device -/

/-- The report queue holds at most 128 reports, no two with the same kind and subject (R39). -/
def ReportLaw (s : State) : Prop :=
  s.control.queue.length ≤ Config.reportQueueSize ∧ s.control.queue.Pairwise fun a b => a.same b = false

/-- The message queue holds at most 32 entries, no two with the same tag, ordered by class (R167). -/
def MessageLaw (s : State) : Prop :=
  s.msgs.queue.length ≤ Config.messageQueueSize ∧ (s.msgs.queue.Pairwise fun a b => a.tag ≠ b.tag) ∧
    s.msgs.queue.Pairwise fun a b => a.cls.rank ≤ b.cls.rank

/-- No score field lies outside its range (R130). -/
def ScoreLaw (s : State) : Prop := ∀ f : Fin 16, s.score.fields[f] ≤ fieldTop f

/-- A clock value lies between 0 and Vmax, and in UP mode not above its limit; an EXPIRED DOWN channel holds 0; and no period
of the active table is above Vmax (R107, R108). An EXPIRED UP channel is left out: its limit may have been raised since
(notes/assumptions/43.md). -/
def ClockLaw (s : State) : Prop :=
  ∀ c : Fin 4, (s.clockCfg c).period ≤ Config.vmax ∧ s.clocks[c].value ≤ (s.clockCfg c).top ∧
    (s.clocks[c].state = .expired → (s.clockCfg c).direction = .down → s.clocks[c].value = 0)

/-- The blocks of an asset that is not EMPTY are as many as its data size requires, lie below the ring, and are shared with no
other asset; and the ring is no larger than the MEMORY table allows (R66, R67, R72). -/
def AssetLaw (s : State) : Prop :=
  s.ringSlots ≤ Config.maxRingSlots ∧
    (∀ i : AssetId, s.assets.recs[i].occupies = true →
      1 ≤ s.assets.recs[i].blocks ∧ s.assets.recs[i].blocks = blocksFor s.assets.recs[i].dataSize ∧
        s.assets.recs[i].firstBlock + s.assets.recs[i].blocks ≤ assetArea s.ringSlots) ∧
    ∀ i j : AssetId, i ≠ j → s.assets.recs[i].occupies = true → s.assets.recs[j].occupies = true →
      runsMeet s.assets.recs[i].firstBlock s.assets.recs[i].blocks s.assets.recs[j].firstBlock s.assets.recs[j].blocks = false

/-- The stacked DRAM is listed in its canonical form (notes/assumptions/3.md). -/
def DramLaw (s : State) : Prop := s.assets.dram.wf = true

/-- The ring's figures agree: it holds no more frames than slots, the newest is the last number given, and no present frame
has number 0; and every VALID clip mark has its in-point frame present (R83, R89, R95). -/
def MarkLaw (s : State) : Prop :=
  s.replay.ring.present ≤ s.replay.ring.slots.length ∧
    (s.replay.ring.present ≠ 0 → s.replay.ring.newest = some s.replay.recorder.lastNumber) ∧
    s.replay.ring.present ≤ s.replay.recorder.lastNumber ∧
    ∀ (m : Fin 16) (c : Clip), s.replay.marks[m] = .valid c → s.replay.ring.has c.inPoint = true

/-- The player is SUSPENDED during every output frame under takeover in which it is not IDLE, and in no other; SUSPENDED is never
the state it remembers; in an output frame under takeover its state of the frame is IDLE or SUSPENDED; and a SUSPENDED player's is
not PLAYING, so that it does not move when takeover ends (R101, R105). -/
def PlayerLaw (s : State) : Prop :=
  (s.msgs.takeover = true → s.replay.player.state = .idle ∨ s.replay.player.state = .suspended) ∧
    (s.replay.player.state = .suspended → s.msgs.takeover = true) ∧ s.replay.player.remembered ≠ some .suspended ∧
    (s.msgs.takeover = true → s.replay.player.frameState = .idle ∨ s.replay.player.frameState = .suspended) ∧
    (s.replay.player.state = .suspended → s.replay.player.frameState ≠ .playing)

/-- The canvas is 1 to 512 tiles wide and 1 to 256 tiles high, every enabled segment lies inside it, and so does every base of
the four layouts (R20, R34, R60, R63). -/
def CanvasLaw (s : State) : Prop :=
  1 ≤ s.device.wTiles ∧ s.device.wTiles ≤ 512 ∧ 1 ≤ s.device.hTiles ∧ s.device.hTiles ≤ 256 ∧
    fitsWidth s s.device.wTiles = true ∧ fitsHeight s s.device.hTiles = true

/-- The compositor holds at most one pin on an asset (R64). -/
def PinLaw (s : State) : Prop := s.comp.pins.Nodup

/-- A contract's remainder stays below 27,000 and its figures in 48 bits; the settlement log holds at most 128 records
(R146, R152, R164). -/
def SponsorLaw (s : State) : Prop :=
  (∀ i : Fin 64, s.sponsor.accruals[i].remainder < Config.ticksPerMs ∧ s.sponsor.accruals[i].accrued ≤ Config.accountTop ∧
      s.sponsor.accruals[i].wall ≤ Config.accountTop) ∧
    s.sponsor.log.length ≤ Config.settlementLogSize

/-- No two sponsor lanes show contracts with the same exclusion category other than 0 (R159). -/
def CategoryLaw (s : State) : Prop :=
  ∀ (l k : Fin 8) (c d : Fin 64), l ≠ k → s.sponsor.lanes[l].contract = some c → s.sponsor.lanes[k].contract = some d →
    (s.contract c).category ≠ 0 → (s.contract c).category ≠ (s.contract d).category

/-- The counters of the control channel, the relock count and the receivers' runs stay in their ranges (R2, R3, R10, R26,
R40, section 1.2). -/
def CounterLaw (s : State) : Prop :=
  s.control.health ≤ Config.healthTop ∧ s.control.lost ≤ 255 ∧ s.timing.relockCount ≤ 15 ∧
    ∀ i : InputId, (s.receiver i).goodRun ≤ 8 ∧ (s.receiver i).badRun ≤ 3 ∧ (s.receiver i).history.length ≤ 8

/-- No trigger waits: the cue unit takes every trigger before the next command or event (R191). -/
def TriggerLaw (s : State) : Prop := s.cues.pendingTriggers = []

/-- A state that meets every law above. -/
def State.lawful (s : State) : Prop :=
  ReportLaw s ∧ MessageLaw s ∧ ScoreLaw s ∧ ClockLaw s ∧ AssetLaw s ∧ DramLaw s ∧ MarkLaw s ∧ PlayerLaw s ∧ CanvasLaw s ∧
    PinLaw s ∧ SponsorLaw s ∧ CategoryLaw s ∧ CounterLaw s ∧ TriggerLaw s

end Sys2Proof.Machine
end

