-- ==== Sys2Proof/Certificates/Slice0/Obligations.lean ====
section
/-! DEFINITION. The statements for the provers. Each docstring names the rules of spec/ it rests on; where a clause is the
model's own choice it names the log entry. -/

open Sys2Proof Sys2Proof.Machine

/-! ### Steps, resets and stops -/

/-- One step runs the command at the front of the queue with the queue's rest (00_scope). On an empty queue the block idles:
the model's choice (notes/assumptions/6.md). -/
def Obligations.StepRunsFrontCommand : Prop :=
  (∀ (c : Instr) (rest : List Instr) (s : State), s.pending = c :: rest → step s = exec c { s with pending := rest }) ∧
    ∀ s : State, s.pending = [] → step s = .next s

/-- From every state whose assets lie inside the DRAM (R66, R72), every command and event comes to a next state; and none
touches the queue of waiting commands. -/
def Obligations.CommandsNeverStop : Prop :=
  ∀ (c : Instr) (s : State),
    (AssetLaw s → ∃ s', exec c s = .next s') ∧ ∀ s', exec c s = .next s' → s'.pending = s.pending

/-- RESETN held low drops the schedule, the sent report and the picture and drives the horn low, and changes nothing else; and
while it is low no other command or event has any effect until device reset is released (R19, R188). That events are then ignored
is the model's reading (notes/assumptions/7.md). What the release of device reset leaves (R3, R13, R19, R26, R35, R40, R43, R65,
R82, R106, R129, R144, R166, R184, R193), with the configuration that each owner then reads from its table (sections 1.7 and 2.9,
R65, R107, R144, R166, R184, R187, R193); the values that fields without meaning and the unlisted DRAM then have are the model's
choice (notes/assumptions/3.md, 13.md and 14.md); and that after every release, `State.reset` among them, every law of the device
holds. -/
def Obligations.Resets : Prop :=
  ((∀ (t : Time) (s : State), exec (.resetnHeldLow t) s = .next
        { s with count := t, inReset := true, cues.horn := none, timing.schedule := [], control.sent := none,
                 comp.scene := none }) ∧
      ∀ (c : Instr) (s : State), s.inReset = true → (∀ p, c ≠ .deviceReset p) → (∀ t, c ≠ .resetnHeldLow t) →
        exec c s = .next s) ∧
    (∀ (pins : Pins) (s : State), ∃ u, exec (.deviceReset pins) s = .next u ∧ u.pending = s.pending ∧
        u.count = 0 ∧ u.inReset = false ∧ u.timing.op = .start ∧ u.timing.relockCount = 0 ∧ u.timing.relockWindow = none ∧
        u.timing.lastFrameStart = 0 ∧ u.timing.schedule = [if pins.rateSel then 450450 else 540000] ∧
        u.device.rate = (if pins.rateSel then .hz5994 else .hz50) ∧ u.unit.address = pins.straps.setWidth 12 ∧
        u.device.wTiles = 240 ∧ u.device.hTiles = 135 ∧ u.ringSlots = 2048 ∧
        u.pgm.lock = (if pins.pgmSignal then .acquiring else .absent) ∧
        u.iso.lock = (if pins.isoSignal then .acquiring else .absent) ∧ u.pgm.feed = .slate ∧ u.iso.feed = .slate ∧
        u.control.health = 0 ∧ u.control.queue = [] ∧ u.control.lost = 0 ∧ u.control.unattended = false ∧
        u.control.unattendedTimer = none ∧ u.control.readback = none ∧ (∀ id : Fin 15, u.control.loads[id] = .idle) ∧
        u.comp.activeLayout = 0 ∧ u.comp.pendingLayout = none ∧ u.comp.frameNumber = 0 ∧ u.comp.pins = [] ∧
        (∀ i : AssetId, u.assets.recs[i].state = .empty ∧ u.assets.recs[i].pins = 0) ∧
        u.replay.ring.present = 0 ∧ u.replay.ring.newest = none ∧ u.replay.recorder.state = .idle ∧
        u.replay.recorder.lastNumber = 0 ∧ (∀ m : Fin 16, u.replay.marks[m] = .empty) ∧ u.replay.player.state = .idle ∧
        (∀ c : Fin 4, u.clocks[c].state = .stopped ∧ u.clocks[c].value = 0) ∧ (∀ f : Fin 16, u.score.fields[f] = 0) ∧
        (∀ i : Fin 64, u.sponsor.accruals[i].state = .vacant) ∧ u.sponsor.log = [] ∧ u.sponsor.closeNumber = 0 ∧
        u.msgs.queue = [] ∧ u.msgs.takeover = false ∧ u.cues.horn = none ∧ u.cues.pendingTriggers = [] ∧
        (∀ i : Fin 32, u.cues.records[i].armed = false ∧ u.cues.records[i].fires = 0)) ∧
    (∀ (pins : Pins) (s : State), ∃ u, exec (.deviceReset pins) s = .next u ∧
        u.device = { wTiles := 240, hTiles := 135, rate := if pins.rateSel then .hz5994 else .hz50, holdMs := 2000,
                     relockLimit := 4, relockWindowS := 60, slateColour := ⟨0, 0, 0⟩, slateAsset := none } ∧
        u.unit = { address := pins.straps.setWidth 12, mask := 0xFFF, groups := 1, source := .pgmPreferred, timeoutS := 30,
                   layout := none, statusInterval := 30 } ∧
        (∀ g : Fin 4, u.segments[g] = if g = 0 then ⟨true, 0, 0, 240, 135⟩ else ⟨false, 0, 0, 0, 0⟩) ∧
        (∀ (l : Fin 4) (z : Fin 16), (u.layout l)[z] = if z = 15
          then { enable := true, colBase := 0, colMask := 0x1FF, rowBase := 0, rowMask := 0xFF, source := .program, offsetX := 0,
                 offsetY := 0, scale := 2 }
          else { enable := false, colBase := 0, colMask := 0, rowBase := 0, rowMask := 0, source := .none, offsetX := 0,
                 offsetY := 0, scale := 2 }) ∧
        (∀ c : Fin 4, u.clockCfg c =
          { direction := .down, console := false, hornOn := true, period := 0, latency := 0, snap := 13500000, deadband := 27000,
            silenceMs := 2000, tenths := 600, hornMs := 1500 }) ∧
        (∀ p : Fin 8, let panel := panelAt u.active[tblPanels] p
          panel.width = 0 ∧ panel.height = 0 ∧ panel.background = none ∧ ∀ f ∈ panel.fields, f.kind = 0) ∧
        (∀ i : Fin 64, u.contract i =
          { key := 0, target := 0, slack := 0, wall := false, channel := 0, wallPeriodS := 0, category := 0, capped := false,
            creatives := Vector.replicate 4 none, dwell := 0 }) ∧
        (∀ l : Fin 8, u.laneCfg l = { list := [], dwell := 300, fill := none }) ∧
        u.keepPanels = false ∧ (∀ k : Nat, k < 8 → (u.template k).defined = false) ∧ (∀ b ∈ u.active[tblCues], b = 0) ∧
        (∀ l : Fin 4, u.contactCfg l = { filterMs := 10, channel := none, activeLow := false }) ∧
        (∀ i : Fin 16, u.comp.visible[i].tiles = 0 ∧ u.comp.ended[i].tiles = 0) ∧
        (∀ c : Fin 4, u.clocks[c] = { state := .stopped, value := 0, correction := 0, ref := 0, lastReport := none,
                                      stale := false, console := none, frame := ⟨0, .stopped, false⟩, frameTenths := 0 }) ∧
        (∀ i : Fin 64, u.sponsor.accruals[i] =
          { state := .vacant, accrued := 0, remainder := 0, met := false, period := 0, wall := 0, creative := 3 }) ∧
        (∀ l : Fin 8, u.sponsor.lanes[l] =
          { contract := none, key := 0, creative := none, framesLeft := 0, cursor := none, pinned := none }) ∧
        (∀ i : Fin 32, u.cues.records[i].firedFrame = none) ∧
        ∀ l : Fin 4, u.cues.lines[l] =
          { level := pins.contacts.getLsbD l, recognized := pins.contacts.getLsbD l, candidate := none }) ∧
    (∀ (pins : Pins) (s : State), ∃ u, exec (.deviceReset pins) s = .next u ∧ u.pins = pins ∧
        (let period := if pins.rateSel then 450450 else 540000
         u.timing = { op := .start, outputPeriod := period, lastFrameStart := 0, schedule := [BitVec.ofNat 48 period],
                      realigning := false, relockCount := 0, relockWindow := none }) ∧
        (∀ i : InputId,
          let signal := match i with | .pgm => pins.pgmSignal | .iso => pins.isoSignal
          u.receiver i =
            { lock := if signal then .acquiring else .absent, signal := signal, runRate := none, goodRun := 0, badRun := 0,
              latest := none, history := [], measured := none, frozen := none, held := none, feed := .slate, holdTimer := none,
              structureValid := true, packetCount := 0 }) ∧
        u.control.statusCount = 0 ∧ u.control.sent = none ∧ u.comp.scene = none ∧
        u.replay.ring = { slots := List.replicate 2048 none, writePos := 0, present := 0, newest := none } ∧
        u.replay.recorder =
          { state := .idle, source := .pgm, gap := 0, snapshot := none, lastNumber := 0, exhausted := false } ∧
        u.replay.player =
          { state := .idle, mark := 0, position := 0, rateN := 1, rateD := 1, phase := 0, endAction := .hold,
            remembered := none, frameState := .idle, reposition := false, presented := none } ∧
        (∀ i : AssetId, u.assets.recs[i] =
          { state := .empty, kind := .image, width := 0, height := 0, frames := 0, interval := 0, dataSize := 0,
            firstBlock := 0, blocks := 0, received := 0, crc := 0, timer := none, pins := 0 }) ∧ u.assets.dram = [] ∧
        (∀ lane : MessageLane, (lane = u.msgs.emergency ∨ ∃ l : Fin 4, lane = u.msgs.lanes[l]) →
          lane = { current := none, passWidth := 0, passHeight := 0, x := 0, framesLeft := 0 }) ∧
        ∀ f : Fin 16, u.score.frameCopy[f] = 0) ∧
    (∀ pins : Pins, (State.released pins).lawful) ∧ State.reset.lawful

/-- R13, whole: what device reset leaves of the operating state, and that a control reset keeps it. -/
def Obligations.OperatingStateThroughResets : Prop :=
  (∀ (pins : Pins) (s : State), ∃ u, exec (.deviceReset pins) s = .next u ∧ u.timing.op = .start ∧
      u.timing.relockCount = 0 ∧ u.timing.relockWindow = none) ∧
    ∀ (t : Time) (s : State), ∃ u, exec (.controlReset t) s = .next u ∧ u.timing.op = s.timing.op ∧
      u.timing.relockCount = s.timing.relockCount ∧ u.timing.relockWindow = s.timing.relockWindow

/-- CONTROL_RESET: what it clears and what it keeps (R35, R46, R76, R86, R100, R184). An asset loses one pin for each queued message
that names it, and a DOOMED one is freed with its last (R77, R79). What an EMPTY record, an idle lane and an IDLE player hold is
the model's choice (notes/assumptions/14.md). That the queue then holds exactly one STATUS report with REPEAT 0, also where the
health state or the unattended flag changes, is the model's deduction (notes/assumptions/11.md). -/
def Obligations.ControlReset : Prop :=
  ∀ (t : Time) (s : State), s.takes .controlReset → ∃ u, exec (.controlReset t) s = .next u ∧
    u.count = t ∧ u.inReset = s.inReset ∧ u.pins = s.pins ∧ u.pending = s.pending ∧
    u.control.health = 0 ∧ (∀ id : Fin 15, u.control.loads[id] = .idle) ∧ u.control.queue = [⟨.status, 0, 0, 0, []⟩] ∧
    u.control.lost = 0 ∧ u.control.readback = none ∧ u.control.unattended = false ∧
    u.control.unattendedTimer =
      (if s.unit.timeoutS = 0 then none else some (after t (s.unit.timeoutS * Config.ticksPerSecond))) ∧
    u.control.statusCount = s.control.statusCount ∧ u.control.sent = s.control.sent ∧
    u.msgs.queue = [] ∧ (∀ l : Fin 4, u.msgs.lanes[l] = { s.msgs.lanes[l] with current := none }) ∧
    u.msgs.emergency = { s.msgs.emergency with current := none } ∧ u.msgs.takeover = s.msgs.takeover ∧
    u.replay.player = (if s.replay.player.state = .idle then s.replay.player
      else { s.replay.player with state := .idle, remembered := none, reposition := false }) ∧
    u.replay.recorder = (if s.replay.recorder.state = .idle then s.replay.recorder
      else { s.replay.recorder with state := .idle, gap := 0, snapshot := none }) ∧
    u.replay.ring = s.replay.ring ∧ u.replay.marks = s.replay.marks ∧
    (∀ i : AssetId,
      let a := s.assets.recs[i]
      let named := (s.msgs.queue.filter fun e => decide (e.strip = i)).length
      u.assets.recs[i] = if a.state = .loading ∨ (a.state = .doomed ∧ 0 < named ∧ a.pins ≤ named) then Asset.empty
        else { a with pins := a.pins - named }) ∧
    Asset.empty.state = .empty ∧ Asset.empty.pins = 0 ∧
    u.assets.dram = s.assets.dram ∧ u.clocks = s.clocks ∧ u.score = s.score ∧ u.active = s.active ∧
    u.sponsor = s.sponsor ∧ u.timing = s.timing ∧ u.pgm = s.pgm ∧ u.iso = s.iso ∧ u.comp = s.comp ∧ u.cues = s.cues

/-! ### Links and frame timing -/

/-- DRAM_INIT_DONE: START is left for SEEKING, and at once for LIVE with the schedule realigned when PGM is LOCKED, with the FEED
report of the operating state, and the unattended timer starts; in another operating state nothing happens (R10, R16, R19, R43).
That the way to LIVE is two changes, SEEKING and LIVE, with a report each, is the model's deduction (notes/assumptions/37.md).
RESUME: in LOCKOUT with PGM LOCKED the state becomes LIVE with the schedule realigned and its FEED report, the relock count 0 and
the window timer stops; with PGM not LOCKED it is refused with NOT_LOCKED; elsewhere it has no effect (R10, R12, R16). Neither
changes a feed state, so no trigger is sent. -/
def Obligations.StartAndResume : Prop :=
  (∀ (t : Time) (s : State), s.quiet →
      let timer := if s.unit.timeoutS = 0 then none else some (after t (s.unit.timeoutS * Config.ticksPerSecond))
      let started := fun (v : State) => ({ v with control.unattendedTimer := timer } : State)
      (s.timing.op ≠ .start → exec (.dramInitDone t) s = .next (s.at t)) ∧
      (s.timing.op = .start → s.pgm.isLocked = false →
        exec (.dramInitDone t) s = .next (started (({ s with count := t, timing.op := .seeking } : State).feedReport 2 1))) ∧
      (∀ rate, s.timing.op = .start → s.pgm.lock = .locked rate →
        exec (.dramInitDone t) s = .next (started
          ((({ s with count := t, timing := s.timingLive t rate } : State).feedReport 2 1).feedReport 2 2)))) ∧
    (∀ (t : Time) (s : State), s.takes .resume →
        (s.timing.op ≠ .lockout → exec (.resume t) s = .next (s.at t)) ∧
        (s.timing.op = .lockout → s.pgm.isLocked = false → exec (.resume t) s = .next (s.refusing t .resume .notLocked)) ∧
        ∀ rate, s.timing.op = .lockout → s.pgm.lock = .locked rate → exec (.resume t) s = .next (({ s with
          count := t, timing := { s.timingLive t rate with relockCount := 0, relockWindow := none } } : State).feedReport 2 2))

/-- SIGNAL_PRESENT and SIGNAL_ABSENT: what they do to the input's lock, runs, history, feed and hold timer, to the operating
state, the schedule and the recorder (R3, R4, R8, R10, R17, R87), and the FEED reports and triggers of the changes (R9, R10), an
input's report before the operating state's by the model's choice (notes/assumptions/30.md), and both triggers of a hold time of 0
before the cue unit takes the first by the model's choice (notes/assumptions/44.md). What HOLD then offers is the model's
deduction (notes/assumptions/32.md). -/
def Obligations.SignalEvents : Prop :=
  ∀ (t : Time) (i : InputId) (s : State), s.quiet →
    exec (.signalPresent t i) s = .next ((s.at t).setReceiver i
      (if (s.receiver i).lock = .absent then
        { s.receiver i with signal := true, lock := .acquiring, goodRun := 0, badRun := 0, runRate := none, history := [],
                            latest := none }
      else { s.receiver i with signal := true })) ∧
    ((s.receiver i).lock = .absent →
      exec (.signalAbsent t i) s = .next ((s.at t).setReceiver i { s.receiver i with signal := false })) ∧
    ((s.receiver i).lock = .acquiring →
      exec (.signalAbsent t i) s = .next ((s.at t).setReceiver i
        { s.receiver i with signal := false, lock := .absent, goodRun := 0, badRun := 0, runRate := none, history := [],
                            latest := none })) ∧
    ((s.receiver i).isLocked = true → ∃ u, exec (.signalAbsent t i) s = .next u ∧ u.count = t ∧
      u.receiver i = { s.receiver i with
        lock := .absent, signal := false, goodRun := 0, badRun := 0, runRate := none, history := [], latest := none,
        feed := (u.receiver i).feed, holdTimer := (u.receiver i).holdTimer, held := (u.receiver i).held } ∧
      s.afterLoss t i u ∧ s.lossAnnounced t i u ∧ s.recorderWaits i u ∧ u.replay.ring = s.replay.ring ∧
      u.replay.marks = s.replay.marks ∧ (∀ j, j ≠ i → u.receiver j = s.receiver j) ∧
      (s.unarmed → s.keeps u ∧ u.msgs = s.msgs ∧ u.assets = s.assets))

/-- The frame timeouts, the hold timer and the relock window: what each does when it is due (R3, R4, R8, R10, R11, R17), with the
frame timeouts in ticks since the latest input frame start (R3, R4), with the FEED reports and triggers of the changes (R9, R10),
an input's report before the operating state's by the model's choice (notes/assumptions/30.md), and both triggers of a hold time of
0 before the cue unit takes the first by the model's choice (notes/assumptions/44.md). What HOLD offers is the model's deduction
(notes/assumptions/32.md). The recorder changes only where the feed does, RECORDING or HELD going to WAIT (R87), which with the hold
timer's expiry no run brings; ring and marks never change. An event that is not due, a frame timeout of a lock state that the input
does not have among them, has no effect: the model's choice (notes/assumptions/8.md). -/
def Obligations.TimerExpiries : Prop :=
  (∀ (r : Receiver) (t : Time) (n : Nat), r.silent t n = true ↔ ∃ l, r.latest = some l ∧ n ≤ elapsed l t) ∧
  [frameTimeout .hz50, frameTimeout .hz5994, frameTimeout .hz60] = [810000, 675675, 675000] ∧
  [nominal .hz50, nominal .hz5994, nominal .hz60] = [540000, 450450, 450000] ∧
  ∀ (t : Time) (i : InputId) (s : State), s.quiet →
    exec (.acquiringFrameTimeout t i) s = .next (if (s.receiver i).lock = .acquiring ∧ (s.receiver i).silent t 810000 then
        (s.at t).setReceiver i { s.receiver i with goodRun := 0, badRun := 0, runRate := none, history := [], latest := none }
      else s.at t) ∧
    ((s.receiver i).isLocked = false → exec (.lockedFrameTimeout t i) s = .next (s.at t)) ∧
    (∀ rate, (s.receiver i).lock = .locked rate →
      ((s.receiver i).silent t (frameTimeout rate) = false → exec (.lockedFrameTimeout t i) s = .next (s.at t)) ∧
      ((s.receiver i).silent t (frameTimeout rate) = true → ∃ u, exec (.lockedFrameTimeout t i) s = .next u ∧ u.count = t ∧
        u.receiver i = { s.receiver i with
          lock := .acquiring, goodRun := 0, badRun := 0, runRate := none, history := [], latest := none,
          feed := (u.receiver i).feed, holdTimer := (u.receiver i).holdTimer, held := (u.receiver i).held } ∧
        s.afterLoss t i u ∧ s.lossAnnounced t i u ∧ s.recorderWaits i u ∧ u.replay.ring = s.replay.ring ∧
        u.replay.marks = s.replay.marks ∧ (∀ j, j ≠ i → u.receiver j = s.receiver j) ∧
        (s.unarmed → s.keeps u ∧ u.msgs = s.msgs ∧ u.assets = s.assets))) ∧
    (due (s.receiver i).holdTimer t = false → exec (.holdTimerExpiry t i) s = .next (s.at t)) ∧
    (due (s.receiver i).holdTimer t = true → ∃ u v, exec (.holdTimerExpiry t i) s = .next u ∧ u.count = t ∧
      u.receiver i = { s.receiver i with
        holdTimer := none, feed := if (s.receiver i).feed = .hold then .slate else (s.receiver i).feed } ∧
      u.timing = { s.timing with op := if i = .pgm ∧ s.timing.op = .hold then .fallback else s.timing.op } ∧
      (let w := if (s.receiver i).feed = .hold then s.feedReport (feedItem i) 2 else s
       u = settle v ∧ v.control = (if i = .pgm ∧ s.timing.op = .hold then w.feedReport 2 4 else w).control ∧
       v.cues = { s.cues with
         pendingTriggers := if (s.receiver i).feed = .hold then [⟨t, .feed i .slate⟩] else [] } ∧
       (s.unarmed → u.control = v.control)) ∧ s.recorderWaits i u ∧ u.replay.ring = s.replay.ring ∧
      u.replay.marks = s.replay.marks ∧ (∀ j, j ≠ i → u.receiver j = s.receiver j) ∧
      (s.unarmed → s.keeps u ∧ u.msgs = s.msgs ∧ u.assets = s.assets)) ∧
    exec (.relockWindowExpiry t) s = .next (if due s.timing.relockWindow t then
        { s with count := t, timing.relockCount := 0, timing.relockWindow := none } else s.at t)

/-- INPUT_FRAME_START: how the frame is classified, with the windows in ticks, and the lock state, the runs, the latest start,
the history, the frozen frame, the measured period, the feed and the hold timer after it (R2 to R6, R8, R17), and whether its
structure is valid, so that the receiver hands on the packets of the frame (R2, R7); where it takes the
input out of LOCKED, the FEED reports and triggers of the changes (R9, R10), an input's report before the operating state's by the
model's choice (notes/assumptions/30.md), both triggers of a hold time of 0 before the cue unit takes the first by the model's choice
(notes/assumptions/44.md), with the recorder at rest, so that the frame raises nothing else and leaves ring and marks. What HOLD
offers is the model's deduction (notes/assumptions/32.md). On an ABSENT input it has no effect: the model's choice
(notes/assumptions/9.md). -/
def Obligations.InputFrameRuns : Prop :=
  (∀ (r : Receiver) (t : Time) (f : InputFrame),
    (r.latest = none → classify r t f = .unmeasured) ∧
    ∀ l, r.latest = some l →
      ((f.whole = true ∧ f.checkCorrect = true ∧ f.picture.width ≤ 4096 ∧ f.picture.height ≤ 2048) →
        (537300 ≤ elapsed l t ∧ elapsed l t ≤ 542700 → classify r t f = .good .hz50) ∧
        (447750 ≤ elapsed l t ∧ elapsed l t ≤ 450224 → classify r t f = .good .hz60) ∧
        (450225 ≤ elapsed l t ∧ elapsed l t ≤ 452702 → classify r t f = .good .hz5994) ∧
        (elapsed l t < 447750 ∨ (452702 < elapsed l t ∧ elapsed l t < 537300) ∨ 542700 < elapsed l t →
          classify r t f = .bad)) ∧
      (¬ (f.whole = true ∧ f.checkCorrect = true ∧ f.picture.width ≤ 4096 ∧ f.picture.height ≤ 2048) →
        classify r t f = .bad)) ∧
  ∀ (t : Time) (i : InputId) (f : InputFrame) (s : State), s.quiet →
    ((s.receiver i).lock = .absent → exec (.inputFrameStart t i f) s = .next (s.at t)) ∧
    ((s.receiver i).lock ≠ .absent → ∃ u, exec (.inputFrameStart t i f) s = .next u ∧
      ((u.receiver i).lock, (u.receiver i).runRate, (u.receiver i).goodRun, (u.receiver i).badRun) =
        (s.receiver i).runsAfter (classify (s.receiver i) t f) ∧
      (u.receiver i).latest = some t ∧
      (u.receiver i).history = (match (s.receiver i).latest with
        | none => (s.receiver i).history
        | some l => (if 8 ≤ (s.receiver i).history.length then (s.receiver i).history.drop 1 else (s.receiver i).history) ++
            [l]) ∧
      (u.receiver i).frozen = (match classify (s.receiver i) t f with
        | .good _ => some ⟨f.picture, t⟩
        | _ => (s.receiver i).frozen) ∧
      (u.receiver i).measured = (match i, (u.receiver i).history.head? with
        | .pgm, some o => if (u.receiver i).goodRun = 8 then some ((elapsed o t + 4) / 8) else (s.receiver i).measured
        | _, _ => (s.receiver i).measured) ∧
      (u.receiver i).signal = (s.receiver i).signal ∧ (u.receiver i).packetCount = 0 ∧
      ((u.receiver i).structureValid = true ↔ f.whole = true ∧ f.picture.width ≤ 4096 ∧ f.picture.height ≤ 2048) ∧
      ((s.receiver i).isLocked = (u.receiver i).isLocked →
        (u.receiver i).feed = (s.receiver i).feed ∧ (u.receiver i).holdTimer = (s.receiver i).holdTimer ∧
        (i = .iso ∨ s.timing.op ≠ .live ∨ (s.receiver i).isLocked = false → u.timing = s.timing)) ∧
      ((s.receiver i).isLocked = false → (u.receiver i).isLocked = true →
        (u.receiver i).feed = (s.receiver i).feed ∧ (u.receiver i).holdTimer = none ∧ (i = .iso → u.timing = s.timing)) ∧
      ((s.receiver i).isLocked = true → (u.receiver i).isLocked = false →
        s.afterLoss t i u ∧ (s.recorderRests i → s.lossAnnounced t i u ∧ u.replay.ring = s.replay.ring ∧
          u.replay.marks = s.replay.marks)) ∧
      (¬ ((s.receiver i).isLocked = true ∧ (u.receiver i).isLocked = false) → (u.receiver i).held = (s.receiver i).held) ∧
      (∀ j, j ≠ i → u.receiver j = s.receiver j) ∧ (s.unarmed → s.keeps u ∧ u.msgs = s.msgs ∧ u.assets = s.assets))

/-- A frame that takes PGM to LOCKED moves the operating state: SEEKING gives LIVE, HOLD and FALLBACK give LIVE or LOCKOUT by the
relock limit, START and LOCKOUT stay; a change queues its FEED report and sends no trigger, stated with the recorder at rest (R9,
R10, R11). An entry into LIVE realigns the output from that frame if that shortens no output frame and otherwise waits (R16).
While the realignment waits, the first PGM frame start that shortens no output frame schedules the next one; that this counts a
frame start less than half a period after the one before, too, is the model's deduction (R16, notes/assumptions/17.md). In LIVE
past the realignment, a PGM input frame start that leaves PGM LOCKED schedules an output frame start one nominal period later
behind those that wait, unless it comes less than half a period after the one before (R14). -/
def Obligations.PgmLockAndGenlock : Prop :=
  (∀ (t : Time) (f : InputFrame) (rate : Rate) (s : State), s.quiet → s.pgm.lock = .acquiring →
      classify s.pgm t f = .good rate → s.pgm.runRate = some rate → 7 ≤ s.pgm.goodRun →
      ∃ u, exec (.inputFrameStart t .pgm f) s = .next u ∧ u.pgm.lock = .locked rate ∧ u.pgm.holdTimer = none ∧
        u.cues = s.cues ∧ (s.recorderRests .pgm → s.pgm.feed ≠ .live →
          (u.timing.op = s.timing.op → u.control = s.control) ∧
          (u.timing.op ≠ s.timing.op → u.timing.op = .live → u.control = (s.feedReport 2 2).control) ∧
          (u.timing.op ≠ s.timing.op → u.timing.op ≠ .live → u.control = (s.feedReport 2 5).control)) ∧
        let window := if s.timing.relockCount = 0 then some (after t (s.device.relockWindowS * Config.ticksPerSecond))
          else s.timing.relockWindow
        let y := after t (nominal rate)
        let live : Timing := if reached (after s.timing.lastFrameStart s.timing.outputPeriod) y = true then
            { s.timing with op := .live, schedule := [y], realigning := false }
          else { s.timing with op := .live, schedule := [], realigning := true }
        (s.timing.op = .seeking → u.timing = live) ∧
        (s.timing.op = .start ∨ s.timing.op = .lockout → u.timing = s.timing) ∧
        (s.timing.op = .hold ∨ s.timing.op = .fallback →
          (s.device.relockLimit = 0 ∨ s.timing.relockCount < s.device.relockLimit →
            u.timing = { live with relockCount := min 15 (s.timing.relockCount + 1), relockWindow := window }) ∧
          (0 < s.device.relockLimit ∧ s.device.relockLimit ≤ s.timing.relockCount →
            u.timing = { s.timing with op := .lockout, relockWindow := window }))) ∧
    (∀ (t l : Time) (f : InputFrame) (rate : Rate) (s : State), s.quiet → s.timing.op = .live →
        s.pgm.lock = .locked rate → s.pgm.latest = some l → (classify s.pgm t f = .good rate ∨ s.pgm.badRun < 2) →
        ∃ u, exec (.inputFrameStart t .pgm f) s = .next u ∧ u.pgm.lock = .locked rate ∧ u.timing =
          let y := after t (nominal rate)
          (if s.timing.realigning = true then
             if reached (after s.timing.lastFrameStart s.timing.outputPeriod) y = true then
               { s.timing with schedule := [y], realigning := false } else s.timing
           else if 2 * elapsed l t < nominal rate then s.timing
           else { s.timing with schedule := s.timing.schedule ++ [y] }))

/-- OUTPUT_FRAME_START, when one is scheduled for the instant: the frame start, the output period and the schedule, the layout,
the frame number, the counts, the frame copy, the report slot, the feed states and what PGM and ISO offer, and the recorder, which
a source whose feed becomes LIVE takes from WAIT to RECORDING and which is otherwise as before (R6, R8, R14, R15, R18, R41, R57 to
R59, R87, R137). Outside LIVE the next start is set one free-run period later when no other is scheduled: PGM's measured period,
or the nominal period of the DEVICE default rate, before or after a DEVICE commit by the operand's order (R15,
notes/assumptions/5.md). What HOLD offers is the model's deduction (notes/assumptions/32.md). When none is scheduled for the
instant nothing happens: the model's choice (notes/assumptions/8.md). -/
def Obligations.OutputFrameStart : Prop :=
  ∀ (t : Time) (o : FrameOrder) (s : State), s.quiet →
    (s.timing.schedule.head? ≠ some t → exec (.outputFrameStart t o) s = .next (s.at t)) ∧
    (s.timing.schedule.head? = some t → ∃ u, exec (.outputFrameStart t o) s = .next u ∧
      u.timing.lastFrameStart = t ∧ u.timing.op = s.timing.op ∧ u.timing.relockCount = s.timing.relockCount ∧
      u.timing.relockWindow = s.timing.relockWindow ∧ u.timing.realigning = s.timing.realigning ∧
      (s.timing.op = .live → u.timing.schedule = s.timing.schedule.drop 1 ∧
        u.timing.outputPeriod = (match s.pgm.lock with | .locked rate => nominal rate | _ => s.timing.outputPeriod)) ∧
      (s.timing.op ≠ .live →
        let period := fun v : State => s.pgm.measured.getD (nominal v.device.rate)
        let next := period (if o.scheduleBeforeDevice then s else u)
        (s.timing.schedule = [t] → u.timing.schedule = [after t next] ∧ u.timing.outputPeriod = next) ∧
        ∀ x rest, s.timing.schedule = t :: x :: rest →
          u.timing.schedule = x :: rest ∧ u.timing.outputPeriod = period s) ∧
      u.comp.activeLayout = s.comp.pendingLayout.getD s.comp.activeLayout ∧
      u.comp.frameNumber = s.comp.frameNumber + 1 ∧ u.comp.ended = s.comp.visible ∧
      u.control.sent.isSome = true ∧ u.score.frameCopy = s.score.fields ∧
      (∀ i, (s.receiver i).isLocked = true → (u.receiver i).feed = .live) ∧
      (∀ i, (s.receiver i).isLocked = false → (u.receiver i).feed = (s.receiver i).feed) ∧
      (∀ i, u.receiver i = { s.receiver i with feed := (u.receiver i).feed }) ∧
      (∃ scene, u.comp.scene = some scene ∧ scene.op = s.timing.op ∧ scene.isoFeed = u.iso.feed ∧
        scene.program = (if s.timing.op = .hold then s.pgm.held else s.pgm.frozen).map (·.picture) ∧
        scene.isoPicture = (if u.iso.feed = .hold then s.iso.held else s.iso.frozen).map (·.picture)) ∧
      u.control.health = s.control.health ∧
      u.assets.dram = s.assets.dram ∧
      u.replay.recorder = (let r := s.replay.recorder
        if r.state = .wait ∧ (s.receiver r.source).isLocked = true ∧ (s.receiver r.source).feed ≠ .live then
          { r with state := .recording } else r) ∧
      u.cues.lines = s.cues.lines ∧ u.pins = s.pins ∧ u.pending = s.pending ∧
      (s.unarmed → s.control.loads[tblCues] = .idle → u.score.fields = s.score.fields ∧ u.sponsor.log = s.sponsor.log ∧
        u.sponsor.closeNumber = s.sponsor.closeNumber))

/-- The feeds at an output frame start at which no CUES load is handed over: each LOCKED input whose feed was not LIVE sends its
FEED trigger, PGM before ISO and both before every trigger of the other blocks, and the cue unit takes them when every block has
taken its stages (R8, R9, R18, R191). Where no load is handed over, the reports, the triggers and the horn of the frame start are
those of the report slot and the status frame count, the feeds, the clock channels' stages, CLOCK_EXPIRED and the horn requests
among them, the display notices, the message unit and the player, each upon what those before it have left (R41, R42, R101, R109,
R111, R112, R125, R173); with no cue armed they are so after the cue unit too, which has then taken every trigger. Where nothing
else raises a report or a trigger and no load is handed over, the triggers are those of the feeds alone, and the report queue
holds just the FEED reports of those feeds behind what the report slot and the status frame count left, as it still does after the
cue unit when no armed cue acts (R9, R41, R42). The order of the blocks, PGM's feed before ISO's among them, is the model's
(notes/assumptions/15.md), so is the number order of the clock channels (notes/assumptions/42.md), and the order of the slot and
the count is the operand's (notes/assumptions/5.md). -/
def Obligations.FeedsGoLive : Prop :=
  ∀ (t : Time) (o : FrameOrder) (s : State), s.quiet → s.timing.schedule.head? = some t →
    let turns := fun i : InputId => (s.receiver i).isLocked = true ∧ (s.receiver i).feed ≠ .live
    let sent := (if turns .pgm then [⟨t, .feed .pgm .live⟩] else []) ++
      (if turns .iso then [(⟨t, .feed .iso .live⟩ : Trigger)] else [])
    let counted := if o.countBeforeCommits = o.slotBeforeCommits then o.countBeforeSlot else o.countBeforeCommits
    let told := fun v : State =>
      let v1 := if turns .pgm then v.feedReport 0 0 else v
      if turns .iso then v1.feedReport 1 0 else v1
    let v := frameStages o t (frameOpening o t (s.at t))
    let noLoad := ∀ id : Fin 15, s.loadComplete id = false
    let opened : State :=
      { told (if counted = true then takeSlot (countFrame s) else countFrame (takeSlot s)) with cues.pendingTriggers := sent }
    let advanced := (List.finRange 4).foldl (clockStages t) opened
    let clocked := (List.finRange 4).foldl (clockFrameValue t) advanced
    let played := playerFrame t (messageStages t (selectLayout clocked))
    (s.loadComplete tblCues = false → exec (.outputFrameStart t o) s = .next (settle v) ∧
      v.cues.records = s.cues.records ∧ v.cues.lines = s.cues.lines ∧
      (∃ more, v.cues.pendingTriggers = sent ++ more) ∧
      (noLoad → v.cues = played.cues ∧ v.control = played.control) ∧
      (s.still → noLoad →
        v.cues = { s.cues with pendingTriggers := sent } ∧
        (s.control.readback = none →
          v.control = (told (if counted = true then takeSlot (countFrame s) else countFrame (takeSlot s))).control))) ∧
    (s.unarmed → noLoad → ∃ u, exec (.outputFrameStart t o) s = .next u ∧
      u.control = played.control ∧ u.cues = { played.cues with pendingTriggers := [] }) ∧
    (s.still → s.unarmed → s.control.readback = none → noLoad →
      ∃ u, exec (.outputFrameStart t o) s = .next u ∧
        u.control = (told (if counted = true then takeSlot (countFrame s) else countFrame (takeSlot s))).control)

/-- What OUTPUT_FRAME_START makes of each block's state by that block's stages, in a frame start at which no load is handed over
and no armed cue acts: the report slot and the status frame count, which rises by one until it reaches the status interval and
then returns to 0, the exposure of the frame just ended, the clock channels, the message unit, the player, the sponsor lanes, and
the compositor's tile map, visible tile counts, picture and pins (R18, R41, R42, R57, R58, R64, R101, R109, R151, R152, R173). The
recorder at a frame start is stated in OutputFrameStart, the reports, the triggers and the horn in FeedsGoLive. The order of the
blocks is the model's (notes/assumptions/15.md), and that of the slot and the count the operand's (notes/assumptions/5.md). -/
def Obligations.OutputFrameBlocks : Prop :=
  ∀ (t : Time) (o : FrameOrder) (s : State), s.quiet → s.unarmed → s.timing.schedule.head? = some t →
    (∀ id : Fin 15, s.loadComplete id = false) → ∃ u, exec (.outputFrameStart t o) s = .next u ∧
      let counted := if o.countBeforeCommits = o.slotBeforeCommits then o.countBeforeSlot else o.countBeforeCommits
      let paid := accrue (elapsed s.timing.lastFrameStart t) s
      let messages := messageStages t (selectLayout s)
      let sponsors := sponsorStages { paid with msgs := messages.msgs, assets := messages.assets, clocks := u.clocks }
      let w : State := { sponsors with
        comp := { u.comp with pins := s.comp.pins }, replay := u.replay, score := u.score, pgm := u.pgm, iso := u.iso }
      u.control.sent = (takeSlot (if counted = true then countFrame s else s)).control.sent ∧
      u.control.statusCount =
        (if s.control.statusCount + 1 < s.unit.statusInterval then s.control.statusCount + 1 else 0) ∧
      (∀ c : Fin 4, u.clocks[c] = (clockFrameValue t (clockStages t s c) c).clocks[c]) ∧
      u.msgs = messages.msgs ∧
      u.replay.player = (playerFrame t { s with msgs := messages.msgs }).replay.player ∧
      (∀ i : Fin 64, ∃ creative, u.sponsor.accruals[i] = { paid.sponsor.accruals[i] with creative := creative }) ∧
      u.sponsor = sponsors.sponsor ∧
      u.comp.visible = countsOf w (buildMap w) ∧ u.comp.scene = some (sceneOf w (buildMap w)) ∧
      u.comp.pins = (updatePins w).comp.pins ∧ u.assets = (updatePins w).assets ∧
      (∀ i, (u.receiver i).frozen = (s.receiver i).frozen) ∧ u.replay.ring = s.replay.ring ∧ u.replay.marks = s.replay.marks ∧
      u.active = s.active ∧ u.cues.records = s.cues.records

/-- Takeover (R180): the flag of an output frame is set exactly when the message queue, as it stands after the departures, the
lifetimes and the emergency pass of its frame start, holds an EMERGENCY entry. In a queue that keeps its law, that is an
EMERGENCY entry without a leaving flag, whose lifetime does not end there, and whose last pass does not end there
(R172, R173, R176 to R178). -/
def Obligations.Takeover : Prop :=
  ∀ (t : Time) (o : FrameOrder) (s u : State), s.quiet → s.timing.schedule.head? = some t →
    exec (.outputFrameStart t o) s = .next u →
    (u.msgs.takeover = true ↔ ∃ e ∈ (emergencyPass t (lifetimes t (departures t s))).msgs.queue, e.cls = .emergency) ∧
    (MessageLaw s →
      let lane := s.msgs.emergency
      let lastPassEnds := fun e : Message => lane.current = some e.tag ∧ e.repeatsLeft = 1 ∧
        match e.mode with
        | .crawl => lane.x - e.pace ≤ -((256 * (lifetimes t (departures t s)).assets.recs[e.strip].width : Nat) : Int)
        | .hold => lane.framesLeft ≤ 1
      (u.msgs.takeover = true ↔ ∃ e ∈ s.msgs.queue, e.cls = .emergency ∧ e.leaving = none ∧
        (e.lifetime = 0 ∨ min 65535 (e.age + 1) ≠ e.lifetime) ∧ ¬ lastPassEnds e))

/-! ### The control channel -/

/-- R26, whole: the range of the health counter, what a failed and a correct check do to it, that packets not examined leave it
unchanged, and what device reset and CONTROL_RESET leave. -/
def Obligations.HealthCounter : Prop :=
  (∀ s s' : State, s.control.health ≤ 511 → step s = .next s' → s'.control.health ≤ 511) ∧
    (∀ (t : Time) (i : InputId) (bytes : List Byte) (s s' : State), s.quiet →
      exec (.packetArrival t i bytes) s = .next s' →
      (examined s i bytes = false → s'.control.health = s.control.health) ∧
      (examined s i bytes = true → readPacket? bytes = none → s'.control.health = min 511 (s.control.health + 8)) ∧
      (∀ p, examined s i bytes = true → readPacket? bytes = some p →
        s'.control.health = s.control.health - 1 ∨ (accepted s.unit p = true ∧ p.kind = 2 ∧ s'.control.health = 0))) ∧
    (∀ (pins : Pins) (s : State), ∃ u, exec (.deviceReset pins) s = .next u ∧ u.control.health = 0) ∧
    ∀ (t : Time) (s : State), s.takes .controlReset → ∃ u, exec (.controlReset t) s = .next u ∧ u.control.health = 0

/-- A packet that is not examined has no effect; one whose check failed counts for health and nothing else of it is read; one not
addressed to the part counts for health and is dropped; an accepted packet restarts the unattended timer, or with a timeout of 0
leaves it stopped, and clears the unattended flag, with a STATUS report where the flag was set (R25, R43); then its command runs
as that command, and an unknown KIND or a LEN that does not fit is refused (R22 to R26, R28). Examined are the packets that begin
with the PREAMBLE, of a frame whose structure is valid, outside START, from the input the control source selects by the locks,
while fewer than sixteen of the frame have been examined (R7, R22, R23); that the sixteen are packets examined, not positions, is
the model's choice (notes/assumptions/33.md). Accepted are those whose DEST is FFFh or agrees with the unit address under the
mask, and whose GROUP is 0 or shares a bit with the part's groups (R25). -/
def Obligations.PacketRunsCommand : Prop :=
  (∀ (i : InputId) (bytes : List Byte) (s : State),
    let pgm := ∃ rate, s.pgm.lock = .locked rate
    let iso := ∃ rate, s.iso.lock = .locked rate
    examined s i bytes = true ↔ s.timing.op ≠ .start ∧ bytes.take 2 = [0xB5, 0x4E] ∧ (s.receiver i).structureValid = true ∧
      (s.unit.source = .pgmOnly → i = .pgm) ∧ (s.unit.source = .isoOnly → i = .iso) ∧
      (s.unit.source = .pgmPreferred → (i = .pgm ∧ pgm) ∨ (i = .iso ∧ ¬ pgm ∧ iso)) ∧ (s.receiver i).packetCount < 16) ∧
  (∀ (n : UnitCfg) (p : Packet), accepted n p = true ↔
    (p.dest.setWidth 12 = 0xFFF ∨ p.dest.setWidth 12 &&& n.mask = n.address &&& n.mask) ∧
      (p.group = 0 ∨ ∃ k, p.group.getLsbD k = true ∧ n.groups.getLsbD k = true)) ∧
  ∀ (t : Time) (i : InputId) (bytes : List Byte) (s : State), s.quiet →
    let counted := (s.at t).setReceiver i { s.receiver i with packetCount := (s.receiver i).packetCount + 1 }
    (examined s i bytes = false → exec (.packetArrival t i bytes) s = .next (s.at t)) ∧
    (examined s i bytes = true → readPacket? bytes = none →
      exec (.packetArrival t i bytes) s = .next (setHealth (min 511 (s.control.health + 8)) counted)) ∧
    ∀ p, examined s i bytes = true → readPacket? bytes = some p →
      let u := setHealth (s.control.health - 1) counted
      let timer := if s.unit.timeoutS = 0 then none else some (after t (s.unit.timeoutS * 27000000))
      let attended : State := if s.control.unattended = true then
          raise .status 0 0 [] { u with control.unattendedTimer := timer, control.unattended := false }
        else { u with control.unattendedTimer := timer }
      (accepted s.unit p = false → exec (.packetArrival t i bytes) s = .next u) ∧
      (accepted s.unit p = true →
        (kindOf? p.kind = none →
          exec (.packetArrival t i bytes) s = .next (raise .refusal 0 p.kind.toNat [2, p.kind] attended)) ∧
        (∀ k, kindOf? p.kind = some k → decodePayload t k p.payload = none →
          exec (.packetArrival t i bytes) s = .next (raise .refusal 0 p.kind.toNat [3, p.kind] attended)) ∧
        ∀ k c, kindOf? p.kind = some k → decodePayload t k p.payload = some c →
          exec (.packetArrival t i bytes) s = exec c attended)

/-- Health: the state by the counter, what a change of it abandons and reports, and the commands it refuses (R27, R35, R76). A
change to GUARDED or ISOLATED queues a LOAD_ABANDONED HEALTH for each load, an ASSET_FAILED HEALTH for each LOADING asset and a
STATUS; that it does so in this order, tables and assets in ascending number, is the model's choice
(notes/assumptions/30.md). -/
def Obligations.HealthGate : Prop :=
  (∀ (k : Kind) (emergency : Bool), healthGate .normal k emergency = none ∧
      healthGate .guarded k emergency = (if k = .load ∨ k = .assetOpen ∨ k = .assetData then some .guarded else none) ∧
      healthGate .isolated k emergency =
        (if k = .controlReset ∨ k = .withdraw ∨ (k = .post ∧ emergency = true) then none else some .isolated)) ∧
    (∀ s : State, s.health = healthOf s.control.health) ∧
    (∀ n : Nat, (healthOf n = .normal ↔ n ≤ 127) ∧ (healthOf n = .guarded ↔ 128 ≤ n ∧ n ≤ 255) ∧
      (healthOf n = .isolated ↔ 256 ≤ n)) ∧
    (∀ (n : Nat) (s : State),
      (healthOf n = s.health → setHealth n s = { s with control.health := n }) ∧
      (healthOf n ≠ s.health → healthOf n = .normal → setHealth n s = raise .status 0 0 [] { s with control.health := n }) ∧
      (healthOf n ≠ s.health → healthOf n ≠ .normal →
        let tables := (List.finRange 15).filter fun id => decide (s.control.loads[id] ≠ .idle)
        let assets := (List.finRange 512).filter fun i => decide (s.assets.recs[i].state = .loading)
        let loads := tables.foldl (fun v id => raise .event 2 id.val (be 1 id.val ++ be 1 1) (v.setLoad id .idle))
          { s with control.health := n }
        setHealth n s = raise .status 0 0 [] (assets.foldl (fun v i =>
          raise .event 4 i.val (be 2 i.val ++ be 1 3 ++ be 5 s.assets.recs[i].received) (v.setAsset i Asset.empty)) loads) ∧
        (setHealth n s).control.health = n ∧ (∀ id : Fin 15, (setHealth n s).control.loads[id] = .idle) ∧
        (setHealth n s).active = s.active ∧ (setHealth n s).assets.dram = s.assets.dram ∧
        ∀ i : AssetId, (setHealth n s).assets.recs[i] =
          if s.assets.recs[i].state = .loading then Asset.empty else s.assets.recs[i])) ∧
    ∀ (t : Time) (k : Kind) (p : List Byte) (c : Instr) (s : State), s.quiet → decodePayload t k p = some c →
      (s.health = .guarded → k = .load ∨ k = .assetOpen ∨ k = .assetData →
        exec c s = .next (raise .refusal 0 k.code [4, BitVec.ofNat 8 k.code] (s.at t))) ∧
      (s.health = .isolated → k ≠ .controlReset → k ≠ .withdraw → (k = .post → p[2]? ≠ some 0) →
        exec c s = .next (raise .refusal 0 k.code [5, BitVec.ofNat 8 k.code] (s.at t)))

/-- The KIND values of the commands and, for each, the LEN it takes and the place of its operands in the payload, numbers most
significant byte first; and decode and encode agree: the KIND and payload of every well-formed command decode to that command,
taken at its own instant (R23, R28, R30, R73 and the rule of each command that gives its payload). -/
def Obligations.EncodeDecode : Prop :=
  (∀ (t : Time) (p : List Byte),
    let b := fun k => p.getD k 0
    let w := fun k => (b k ++ b (k + 1) : BitVec 16)
    let d := fun k => (b k ++ b (k + 1) ++ b (k + 2) ++ b (k + 3) : BitVec 32)
    let reads := fun (k : Kind) (len : Nat) (c : Instr) => decodePayload t k p = if p.length = len then some c else none
    reads .resume 0 (.resume t) ∧ reads .controlReset 0 (.controlReset t) ∧ reads .statusRequest 0 (.statusRequest t) ∧
    decodePayload t .load p = (if 5 ≤ p.length ∧ p.length = 5 + (b 3).toNat * entrySize (b 0).toNat then
      some (.load t (b 0) (w 1) (b 3) (b 4) (p.drop 5)) else none) ∧
    reads .readTable 4 (.readTable t (b 0) (w 1) (b 3)) ∧ reads .layoutSelect 1 (.layoutSelect t (b 0)) ∧
    reads .assetOpen 9 (.assetOpen t (w 0) (b 2) (w 3) (w 5) (b 7) (b 8)) ∧
    decodePayload t .assetData p = (if 8 ≤ p.length ∧ p.length ≤ 248 then
      some (.assetData t (w 0) (b 2 ++ b 3 ++ b 4 ++ b 5 ++ b 6) (p.drop 7)) else none) ∧
    reads .assetClose 6 (.assetClose t (w 0) (d 2)) ∧ reads .assetDrop 2 (.assetDrop t (w 0)) ∧
    reads .recordStart 1 (.recordStart t (b 0)) ∧ reads .recordStop 0 (.recordStop t) ∧
    reads .markIn 8 (.markIn t (b 0) (b 1) (d 2) (w 6)) ∧ reads .markOut 6 (.markOut t (b 0) (b 1) (d 2)) ∧
    reads .markClear 1 (.markClear t (b 0)) ∧ reads .cue 1 (.cue t (b 0)) ∧
    reads .play 4 (.play t (b 0) (b 1) (b 2) (b 3)) ∧ reads .pause 0 (.pause t) ∧
    reads .continuePlay 0 (.continuePlay t) ∧ reads .step 2 (.step t (w 0)) ∧ reads .playerStop 0 (.playerStop t) ∧
    reads .clockStart 1 (.clockStart t (b 0)) ∧ reads .clockStop 1 (.clockStop t (b 0)) ∧
    reads .clockSet 5 (.clockSet t (b 0) (d 1)) ∧ reads .clockAdjust 5 (.clockAdjust t (b 0) (d 1)) ∧
    reads .clockPreset 1 (.clockPreset t (b 0)) ∧ reads .clockReport 6 (.clockReport t (b 0) (d 1) (b 5)) ∧
    reads .scoreSet 3 (.scoreSet t (b 0) (w 1)) ∧ reads .scoreAdd 3 (.scoreAdd t (b 0) (w 1)) ∧
    reads .contractPause 1 (.contractPause t (b 0)) ∧ reads .contractResume 1 (.contractResume t (b 0)) ∧
    reads .periodClose 0 (.periodClose t) ∧ reads .settleRemove 1 (.settleRemove t (b 0)) ∧
    reads .post 12 (.post t (w 0) (b 2) (w 3) (b 5) (b 6) (w 7) (b 9) (w 10)) ∧ reads .withdraw 2 (.withdraw t (w 0)) ∧
    reads .clearClass 1 (.clearClass t (b 0)) ∧ reads .horn 2 (.horn t (w 0)) ∧ reads .cueArm 1 (.cueArm t (b 0)) ∧
    reads .cueDisarm 1 (.cueDisarm t (b 0))) ∧
  (∀ k : Kind, 1 ≤ k.code ∧ ([.resume, .controlReset, .statusRequest, .load, .readTable, .layoutSelect, .assetOpen, .assetData,
      .assetClose, .assetDrop, .recordStart, .recordStop, .markIn, .markOut, .markClear, .cue, .play, .pause, .continuePlay,
      .step, .playerStop, .clockStart, .clockStop, .clockSet, .clockAdjust, .clockPreset, .clockReport, .scoreSet, .scoreAdd,
      .contractPause, .contractResume, .periodClose, .settleRemove, .post, .withdraw, .clearClass, .horn, .cueArm,
      .cueDisarm] : List Kind)[k.code - 1]? = some k) ∧
    (∀ (b : Byte) (k : Kind), kindOf? b = some k ↔ k.code = b.toNat) ∧
  ∀ (c : Instr) (k : Kind) (p : List Byte), c.wellFormed = true → encodePayload c = some (k, p) →
    (∃ t, decodePayload t k p = some c) ∧ kindOf? (BitVec.ofNat 8 k.code) = some k

/-- The bytes of a control packet; behind a PREAMBLE a packet with a correct check is read exactly where its bytes stand; a packet
written out reads back as itself, and any single change of its CHECK makes its check fail (R23, R24). -/
def Obligations.PacketRoundTrip : Prop :=
  (∀ p : Packet,
    (let body := be 2 p.dest.toNat ++ be 2 p.group.toNat ++ [p.kind] ++ be 1 p.payload.length ++ p.payload
     writePacket p = [0xB5, 0x4E] ++ body ++ be 2 (crc16 body).toNat) ∧
    ∀ (a b : Byte) (bytes : List Byte), readPacket? (a :: b :: bytes) = some p ↔
      p.payload.length ≤ 248 ∧ ∃ rest, bytes = (writePacket p).drop 2 ++ rest) ∧
  ∀ p : Packet, p.payload.length ≤ 248 →
    startsPacket (writePacket p) = true ∧ readPacket? (writePacket p) = some p ∧
      (writePacket p).length = p.payload.length + 10 ∧
      ∀ a b : Byte, (a ++ b : BitVec 16) ≠ crc16 (((writePacket p).drop 2).take (p.payload.length + 6)) →
        readPacket? ((writePacket p).take (p.payload.length + 8) ++ [a, b]) = none

/-- The tables: their entries and entry sizes (section 2.5), their padding bytes, which a load leaves 0, and the fields that their
owners read from their bytes, most significant first (sections 1.7, 2.9, 3.1, 7.3, 9.5 and 10.3, R62, R67, R107, R145, R149,
R187). LOAD: BAD_LENGTH, BAD_TABLE, RANGE and ORDER, and what a taken segment does to the table's load state and staging copy; and
the load timer's expiry (R30 to R32). That an expiry which is not due only sets the count is the model's choice
(notes/assumptions/8.md). -/
def Obligations.LoadSegment : Prop :=
  ((List.range 16).map fun id => (tableEntries id, entrySize id)) =
    [(8, 4), (7, 4), (4, 12), (16, 20), (16, 20), (16, 20), (16, 20), (1, 4), (4, 32), (8, 208), (64, 32), (8, 40), (9, 16),
      (32, 16), (4, 4), (128, 24)] ∧
  (∀ (table count : Byte) (entries : List Byte),
    (loadFits table count entries = true ↔ entries.length = count.toNat * entrySize table.toNat) ∧
    (15 < table.toNat → entrySize table.toNat = 0)) ∧
  (∀ (base new : List Byte) (off : Nat), off + new.length ≤ base.length →
    (overwrite base off new).length = base.length ∧ ∀ k, (overwrite base off new).getD k 0 =
      if off ≤ k ∧ k < off + new.length then new.getD (k - off) 0 else base.getD k 0) ∧
  (∀ (id : Fin 15) (first : Nat) (bs : List Byte) (k : Nat),
    let entry := first + k / entrySize id.val
    let off := k % entrySize id.val
    let padding := (id = tblDevice ∧ entry = 6 ∧ off = 0) ∨ (id = tblSegments ∧ 9 ≤ off) ∨
      (3 ≤ id.val ∧ id.val ≤ 6 ∧ 15 ≤ off) ∨ (id = tblMemory ∧ 2 ≤ off) ∨ (id = tblClocks ∧ (off = 3 ∨ 27 ≤ off)) ∨
      (id = tblPanels ∧ 6 ≤ off ∧ off < 16) ∨ (id = tblLanes ∧ 37 ≤ off) ∨
      (id = tblTemplates ∧ ((entry = 0 ∧ 1 ≤ off) ∨ 11 ≤ off)) ∨ (id = tblCues ∧ 13 ≤ off)
    (clearPadding id.val first bs).length = bs.length ∧ (padding → (clearPadding id.val first bs).getD k 0 = 0) ∧
      (¬ padding → (clearPadding id.val first bs).getD k 0 = bs.getD k 0)) ∧
  (∀ bs : List Byte,
    let num := fun size i off len : Nat =>
      ((bs.drop (size * i + off)).take len).foldl (fun v b => 256 * v + b.toNat) 0
    let asset := fun n : Nat => (if h : n < 512 then some ⟨n, h⟩ else none : Option AssetId)
    let value := fun k => num 4 k 0 4
    let colour := fun k => BitVec.ofNat 8 (num 4 6 k 1)
    deviceOf bs =
      { wTiles := value 0, hTiles := value 1, rate := (match value 2 with | 0 => .hz50 | 1 => .hz5994 | _ => .hz60),
        holdMs := value 3, relockLimit := value 4, relockWindowS := value 5,
        slateColour := ⟨colour 1, colour 2, colour 3⟩, slateAsset := asset (value 7) } ∧
    unitOf bs =
      { address := BitVec.ofNat 12 (value 0), mask := BitVec.ofNat 12 (value 1), groups := BitVec.ofNat 16 (value 2),
        source := (match value 3 with | 0 => .pgmOnly | 1 => .isoOnly | _ => .pgmPreferred), timeoutS := value 4,
        layout := if h : value 5 < 4 then some ⟨value 5, h⟩ else none, statusInterval := value 6 } ∧
    (∀ g : Fin 4,
      let f := num 12 g
      (segmentsOf bs)[g] = { enable := decide (f 0 1 = 1), x0 := f 1 2, y0 := f 3 2, width := f 5 2, height := f 7 2 }) ∧
    (∀ z : Fin 16,
      let f := num 20 z
      (zonesOf bs)[z] =
        { enable := decide (f 0 1 = 1), colBase := BitVec.ofNat 9 (f 1 2), colMask := BitVec.ofNat 9 (f 3 2),
          rowBase := BitVec.ofNat 8 (f 5 1), rowMask := BitVec.ofNat 8 (f 6 1),
          source := (match f 7 1 with
            | 1 => .program | 2 => .iso | 3 => .replay | 8 => .slate
            | 4 => if h : f 8 2 < 8 then .sponsor ⟨f 8 2, h⟩ else .none
            | 5 => if h : f 8 2 < 4 then .message ⟨f 8 2, h⟩ else .none
            | 6 => if h : f 8 2 < 8 then .panel ⟨f 8 2, h⟩ else .none
            | 7 => if h : f 8 2 < 512 then .asset ⟨f 8 2, h⟩ else .none
            | _ => .none),
          offsetX := f 10 2, offsetY := f 12 2, scale := f 14 1 }) ∧
    ringSlotsOf bs = num 4 0 0 2 ∧
    (∀ c : Fin 4,
      let f := num 32 c
      clockCfgAt bs c =
        { direction := if f 0 1 = 1 then .up else .down, console := decide (f 1 1 = 1), hornOn := decide (f 2 1 = 1),
          period := f 4 5, latency := f 9 4, snap := f 13 4, deadband := f 17 4, silenceMs := f 21 2, tenths := f 23 2,
          hornMs := f 25 2 }) ∧
    (∀ p : Fin 8,
      let f := num 208 p
      panelAt bs p =
        { width := f 0 2, height := f 2 2, background := asset (f 4 2),
          fields := (List.range 12).map fun j =>
            let r := fun off => f (16 + 16 * j + off)
            { kind := r 0 1, index := r 1 1, x := r 2 2, y := r 4 2, digitSet := asset (r 6 2), digits := r 8 1,
              zeroLead := decide (r 9 1 = 1), format := r 10 1, dashes := decide (r 11 1 = 1), home := asset (r 12 2),
              away := asset (r 14 2) } }) ∧
    (∀ i : Fin 64,
      let f := num 32 i
      ∃ creatives, (∀ k : Fin 4, creatives[k] = asset (f (22 + 2 * k.val) 2)) ∧ contractAt bs i =
        { key := f 0 4, target := f 4 6, slack := f 10 6, wall := decide (f 16 1 = 1), channel := f 17 1,
          wallPeriodS := f 18 2, category := f 20 1, capped := decide (f 21 1 = 1), creatives := creatives, dwell := f 30 2 }) ∧
    (∀ l : Fin 8,
      let f := num 40 l
      (laneCfgAt bs l).dwell = f 33 2 ∧ (laneCfgAt bs l).fill = asset (f 35 2) ∧
      (f 0 1 ≤ 32 → (laneCfgAt bs l).list = ((bs.drop (40 * l.val + 1)).take (f 0 1)).filterMap fun b =>
        if h : b.toNat < 64 then some ⟨b.toNat, h⟩ else none)) ∧
    (∀ k : Nat,
      let f := num 16 (k + 1)
      templateOf (entryOf bs 16 (k + 1)) = { defined := decide (f 0 1 = 1), fields :=
        { tag := f 1 2, cls := f 3 1, strip := f 4 2, lane := f 6 1, mode := f 7 1, pace := f 8 2, repeats := f 10 1,
          lifetime := 0 } }) ∧
    (∀ i : Nat,
      let f := num 16 i
      cueOf (entryOf bs 16 i) =
        { armAtCommit := decide (f 0 1 = 1), every := decide (f 1 1 = 1), trigger := f 2 1, index := f 3 1, value := f 4 2,
          action := f 6 1, actionIndex := f 7 1, actionValue := f 8 2, n := f 10 1, d := f 11 1, endAction := f 12 1 }) ∧
    ∀ l : Nat,
      let f := num 4 l
      contactOf (entryOf bs 4 l) =
        { filterMs := f 0 1, channel := if h : f 1 1 = 1 ∧ f 2 1 < 4 then some ⟨f 2 1, h.2⟩ else none,
          activeLow := decide (f 3 1 = 1) }) ∧
  (∀ s : State,
    s.device = deviceOf s.active[tblDevice] ∧ s.unit = unitOf s.active[tblUnit] ∧
    s.segments = segmentsOf s.active[tblSegments] ∧ (∀ l : Fin 4, s.layout l = zonesOf s.active[tblLayout l]) ∧
    s.zones = s.layout s.comp.activeLayout ∧ s.ringSlots = ringSlotsOf s.active[tblMemory] ∧
    (∀ c : Fin 4, s.clockCfg c = clockCfgAt s.active[tblClocks] c) ∧
    (∀ i : Fin 64, s.contract i = contractAt s.active[tblContracts] i) ∧
    (∀ l : Fin 8, s.laneCfg l = laneCfgAt s.active[tblLanes] l) ∧
    (s.keepPanels = true ↔ (s.active[tblTemplates]).head? = some 1) ∧
    (∀ k, s.template k = templateOf (entryOf s.active[tblTemplates] 16 (k + 1))) ∧
    (∀ i : Fin 32, s.cueCfg i = cueOf (entryOf s.active[tblCues] 16 i.val)) ∧
    ∀ l : Fin 4, s.contactCfg l = contactOf (entryOf s.active[tblContacts] 4 l.val)) ∧
  (∀ (t : Time) (table : Byte) (first : BitVec 16) (count flags : Byte) (entries : List Byte) (s : State), s.takes .load →
    (loadFits table count entries = false →
      exec (.load t table first count flags entries) s = .next (s.refusing t .load .badLength)) ∧
    (loadFits table count entries = true → 14 < table.toNat →
      exec (.load t table first count flags entries) s = .next (s.refusing t .load .badTable)) ∧
    ∀ id : Fin 15, loadFits table count entries = true → table.toNat = id.val →
      (tableEntries id.val < first.toNat + count.toNat →
        exec (.load t table first count flags entries) s = .next (s.refusing t .load .range)) ∧
      (first.toNat + count.toNat ≤ tableEntries id.val → flags.getLsbD 0 = false →
        (∀ staging x, s.control.loads[id] ≠ .opened staging x) →
        exec (.load t table first count flags entries) s = .next (s.refusing t .load .order)) ∧
      ∀ base, first.toNat + count.toNat ≤ tableEntries id.val →
        (flags.getLsbD 0 = true ∧ base = s.active[id] ∨
          flags.getLsbD 0 = false ∧ ∃ x, s.control.loads[id] = .opened base x) →
        exec (.load t table first count flags entries) s = .next ((s.at t).setLoad id
          (let staging := overwrite base (entrySize id.val * first.toNat) (clearPadding id.val first.toNat entries)
           if flags.getLsbD 1 then .complete staging else .opened staging (after t 54000000)))) ∧
    ∀ (t : Time) (id : Fin 15) (s : State), s.quiet →
      exec (.loadTimerExpiry t id) s = .next (match s.control.loads[id] with
        | .opened _ x =>
          if reached x t then raise .event 2 id.val [BitVec.ofNat 8 id.val, 0] ((s.at t).setLoad id .idle) else s.at t
        | _ => s.at t)

/-- READ_TABLE: its refusals, and the readback it begins with its first chunk queued (R36, R37); that BAD_TABLE and RANGE are
tested before BUSY is the model's choice (notes/assumptions/35.md). STATUS_REQUEST queues a STATUS report and does nothing else:
one already pending absorbs it, and a full queue discards it and counts the loss (R39, R40, R42). The bytes a readback reads: a
table's active copy, for CUES with the live armed flag and the fire count in bytes 13 to 15 of each entry (section 10.3), and for
SETTLEMENT the records held, oldest first, then zero bytes (R37, R164). -/
def Obligations.ReadTableAndStatus : Prop :=
  (∀ s : State,
    (∀ id : Fin 15, id ≠ tblCues → s.readbackBytes id.val = s.active[id]) ∧
    s.readbackBytes 13 = (List.finRange 32).flatMap (fun i => ((s.active[tblCues]).drop (16 * i.val)).take 13 ++
      be 1 (if s.cues.records[i].armed = true then 1 else 0) ++ be 2 s.cues.records[i].fires) ∧
    let held := s.sponsor.log.flatMap fun r => be 1 r.contract.val ++ be 1 (if r.met = true then 1 else 0) ++ be 4 r.key ++
      be 2 r.period ++ be 6 r.target ++ be 6 r.accrued ++ be 4 r.close
    s.readbackBytes 15 = held ++ List.replicate (3072 - held.length) 0) ∧
  (∀ (t : Time) (table : Byte) (first : BitVec 16) (count : Byte) (s : State), s.takes .readTable →
      (15 < table.toNat → exec (.readTable t table first count) s = .next (s.refusing t .readTable .badTable)) ∧
      (table.toNat ≤ 15 → count = 0 ∨ tableEntries table.toNat < first.toNat + count.toNat →
        exec (.readTable t table first count) s = .next (s.refusing t .readTable .range)) ∧
      (table.toNat ≤ 15 → count ≠ 0 → first.toNat + count.toNat ≤ tableEntries table.toNat →
        (s.control.readback ≠ none → exec (.readTable t table first count) s = .next (s.refusing t .readTable .busy)) ∧
        (s.control.readback = none → s.control.queue.length < 128 →
          (∀ r ∈ s.control.queue, ¬ (r.kind = .readback ∧ r.topic = table.toNat ∧ r.item = 0)) →
          exec (.readTable t table first count) s = .next
            { s with count := t,
                     control.readback := some ⟨table.toNat, first.toNat * entrySize table.toNat,
                       count.toNat * entrySize table.toNat, 0⟩,
                     control.queue := s.control.queue ++ [⟨.readback, table.toNat, 0, 0,
                       ((s.readbackBytes table.toNat).drop (first.toNat * entrySize table.toNat)).take
                         (min 56 (count.toNat * entrySize table.toNat))⟩] }) ∧
        (s.control.readback = none → 128 ≤ s.control.queue.length →
          (∀ r ∈ s.control.queue, r.kind ≠ .status ∧ ¬ (r.kind = .readback ∧ r.topic = table.toNat ∧ r.item = 0)) →
          exec (.readTable t table first count) s = .next
            { s with count := t, control.lost := min 255 (s.control.lost + 1), control.readback := none }))) ∧
    (∀ (t : Time) (s : State), s.takes .statusRequest →
        ((∃ r ∈ s.control.queue, r.kind = .status ∧ r.topic = 0 ∧ r.item = 0) →
          exec (.statusRequest t) s = .next { s with count := t, control.queue := s.control.queue.map fun r =>
            if r.kind = .status ∧ r.topic = 0 ∧ r.item = 0 then { r with payload := [], repeats := min 255 (r.repeats + 1) }
            else r }) ∧
        ((∀ r ∈ s.control.queue, ¬ (r.kind = .status ∧ r.topic = 0 ∧ r.item = 0)) →
          (s.control.queue.length < 128 →
            exec (.statusRequest t) s =
              .next { s with count := t, control.queue := s.control.queue ++ [⟨.status, 0, 0, 0, []⟩] }) ∧
          (128 ≤ s.control.queue.length →
            exec (.statusRequest t) s = .next { s with count := t, control.lost := min 255 (s.control.lost + 1) })))

/-- Which entries of a staging copy are valid, each table's by its own rule, and the index that is reported, the lowest of an
entry that is not: DEVICE (section 1.7, R20), UNIT (section 2.9, R44), SEGMENTS (R63), the four LAYOUT tables (R60), MEMORY (R67),
CLOCKS (R107, R127), PANELS (R135), CONTRACTS (R147), LANES (R150), TEMPLATES (R182), CUES (R189, R190) and CONTACTS (R187). A
number of an entry is its bytes, most significant first. The law of R33: an active copy changes only at an output frame start, and
only to the staging copy of a COMPLETE load that its owner's validation has passed, against the part's state as the owner then
finds it: CLOCKS against the values its channels have after their stages (R127), MEMORY with the recorder and the player IDLE and,
for a larger ring, no asset in its way (R67), the player as the operand's order lets it be found (notes/assumptions/5.md); of the
six tables that are validated against one another only the lowest COMPLETE one is handed over, and the others stay COMPLETE (R33,
R34). Device reset is the one other change (R35). -/
def Obligations.CommitLaw : Prop :=
  (∀ (s : State) (bs : List Byte),
    let num := fun size i off len : Nat =>
      ((bs.drop (size * i + off)).take len).foldl (fun v b => 256 * v + b.toNat) 0
    let asset := fun n : Nat => n ≤ 511 ∨ n = 65535
    let judged := fun (id : Fin 15) (n : Nat) (valid : Nat → Prop) =>
      (firstInvalid s id bs = none ↔ ∀ k, k < n → valid k) ∧
      ∀ k, firstInvalid s id bs = some k ↔ k < n ∧ ¬ valid k ∧ ∀ j, j < k → valid j
    judged tblDevice 8 (fun k =>
      let n := num 4 k 0 4
      match k with
      | 0 => 1 ≤ n ∧ n ≤ 512 ∧ (∀ g : Fin 4, s.segments[g].enable = true → s.segments[g].x0 + s.segments[g].width ≤ n) ∧
          ∀ (l : Fin 4) (z : Fin 16), (s.layout l)[z].colBase.toNat < n
      | 1 => 1 ≤ n ∧ n ≤ 256 ∧ (∀ g : Fin 4, s.segments[g].enable = true → s.segments[g].y0 + s.segments[g].height ≤ n) ∧
          ∀ (l : Fin 4) (z : Fin 16), (s.layout l)[z].rowBase.toNat < n
      | 2 => n ≤ 2
      | 3 => n ≤ 30000
      | 4 => n ≤ 15
      | 5 => 1 ≤ n ∧ n ≤ 600
      | 6 => True
      | _ => asset n) ∧
    judged tblUnit 7 (fun k =>
      let n := num 4 k 0 4
      match k with
      | 0 => n ≤ 4094
      | 1 => n ≤ 4095
      | 2 => n ≤ 65535
      | 3 => n ≤ 2
      | 4 => n = 0 ∨ (5 ≤ n ∧ n ≤ 600)
      | 5 => n ≤ 3 ∨ n = 65535
      | _ => 1 ≤ n ∧ n ≤ 600) ∧
    judged tblSegments 4 (fun k =>
      let f := num 12 k
      f 0 1 ≤ 1 ∧ (f 0 1 = 1 → 1 ≤ f 5 2 ∧ 1 ≤ f 7 2 ∧ f 1 2 + f 5 2 ≤ s.device.wTiles ∧ f 3 2 + f 7 2 ≤ s.device.hTiles)) ∧
    (∀ l : Fin 4, judged (tblLayout l) 16 (fun k =>
      let f := num 20 k
      f 0 1 ≤ 1 ∧ f 1 2 < s.device.wTiles ∧ f 1 2 ≤ 511 ∧ f 3 2 ≤ 511 ∧ f 5 1 < s.device.hTiles ∧ f 7 1 ≤ 8 ∧
        (f 7 1 = 4 ∨ f 7 1 = 6 → f 8 2 ≤ 7) ∧ (f 7 1 = 5 → f 8 2 ≤ 3) ∧ (f 7 1 = 7 → f 8 2 ≤ 511) ∧
        f 10 2 ≤ 4095 ∧ f 12 2 ≤ 4095 ∧ f 14 1 ≤ 5)) ∧
    judged tblMemory 1 (fun _ =>
      let r := num 4 0 0 2
      r ≤ 3584 ∧ r % 64 = 0 ∧ (r ≠ s.ringSlots → s.replay.recorder.state = .idle ∧ s.replay.player.state = .idle) ∧
        (s.ringSlots < r → ∀ i : AssetId, s.assets.recs[i].state ≠ .empty →
          524288 - 128 * s.ringSlots ≤ s.assets.recs[i].firstBlock ∨
            s.assets.recs[i].firstBlock + s.assets.recs[i].blocks ≤ 524288 - 128 * r)) ∧
    judged tblClocks 4 (fun k =>
      let f := num 32 k
      f 0 1 ≤ 1 ∧ f 1 1 ≤ 1 ∧ f 2 1 ≤ 1 ∧ f 4 5 ≤ 162000000000 ∧ f 9 4 ≤ 27000000 ∧ f 13 4 ≤ 270000000 ∧
        f 17 4 ≤ 27000000 ∧ f 17 4 ≤ f 13 4 ∧ f 21 2 ≤ 60000 ∧ f 23 2 ≤ 60000 ∧ f 25 2 ≤ 10000 ∧
        (f 0 1 = 1 → ∀ c : Fin 4, c.val = k → s.clocks[c].value ≤ if f 4 5 = 0 then 162000000000 else f 4 5)) ∧
    judged tblPanels 8 (fun k =>
      num 208 k 0 2 ≤ 1024 ∧ num 208 k 2 2 ≤ 512 ∧ asset (num 208 k 4 2) ∧ ∀ j, j < 12 →
        let f := fun off : Nat => num 208 k (16 + 16 * j + off)
        f 0 1 ≠ 0 → f 0 1 ≤ 4 ∧ f 2 2 ≤ 1023 ∧ f 4 2 ≤ 511 ∧ asset (f 6 2) ∧ asset (f 12 2) ∧ asset (f 14 2) ∧
          (f 0 1 ≤ 3 → 1 ≤ f 8 1 ∧ f 8 1 ≤ 6 ∧ f 9 1 ≤ 1 ∧ f 10 1 ≤ 2 ∧ f 11 1 ≤ 1) ∧
          (f 0 1 = 1 → f 1 1 ≠ 7 ∧ f 1 1 ≤ 15) ∧ (f 0 1 = 2 ∨ f 0 1 = 3 → f 1 1 ≤ 3)) ∧
    judged tblContracts 64 (fun k =>
      let f := num 32 k
      f 16 1 ≤ 1 ∧ (f 16 1 = 0 → f 17 1 ≤ 3) ∧ f 21 1 ≤ 1 ∧ (∀ j, j < 4 → asset (f (22 + 2 * j) 2)) ∧
        (f 0 4 ≠ 0 → ∀ j, j < k → num 32 j 0 4 ≠ f 0 4)) ∧
    judged tblLanes 8 (fun k =>
      num 40 k 0 1 ≤ 32 ∧ (∀ j, j < num 40 k 0 1 → num 40 k (1 + j) 1 ≤ 63) ∧ asset (num 40 k 35 2)) ∧
    judged tblTemplates 9 (fun k =>
      let f := num 16 k
      f 0 1 ≤ 1 ∧ (1 ≤ k → f 0 1 = 1 →
        f 3 1 ≤ 2 ∧ f 4 2 ≤ 511 ∧ f 7 1 ≤ 1 ∧ f 10 1 ≤ 15 ∧ (f 3 1 ≠ 0 → f 6 1 ≤ 3))) ∧
    judged tblCues 32 (fun k =>
      let f := num 16 k
      f 0 1 ≤ 1 ∧ f 1 1 ≤ 1 ∧ f 6 1 ≤ 10 ∧ f 2 1 ≤ 8 ∧ (f 2 1 ∈ [0, 1, 6] → f 3 1 ≤ 3) ∧ (f 2 1 = 2 → f 3 1 ≤ 15) ∧
        (f 2 1 = 7 → f 3 1 ≤ 1) ∧ (f 2 1 = 1 → f 4 2 ≤ 60000) ∧ (f 2 1 ∈ [6, 7] → f 4 2 ≤ 2)) ∧
    judged tblContacts 4 (fun k =>
      let f := num 4 k
      1 ≤ f 0 1 ∧ f 0 1 ≤ 50 ∧ f 1 1 ≤ 1 ∧ (f 1 1 = 1 → f 2 1 ≤ 3 ∧ f 3 1 ≤ 1))) ∧
  (∀ (c : Instr) (s s' : State), (∀ t o, c ≠ .outputFrameStart t o) → (∀ p, c ≠ .deviceReset p) → exec c s = .next s' →
      s'.active = s.active) ∧
    ∀ (t : Time) (o : FrameOrder) (s s' : State), s.quiet → exec (.outputFrameStart t o) s = .next s' →
      (∀ id : Fin 15, s'.active[id] = s.active[id] ∨ s.control.loads[id] = .complete s'.active[id]) ∧
      (∀ id : Fin 15, s'.active[id] ≠ s.active[id] → id ≠ tblMemory → id ≠ tblClocks →
        firstInvalid s id s'.active[id] = none) ∧
      (s'.active[tblClocks] ≠ s.active[tblClocks] →
        firstInvalid ((List.finRange 4).foldl (clockStages t) s) tblClocks s'.active[tblClocks] = none) ∧
      (s'.active[tblMemory] ≠ s.active[tblMemory] →
        s'.ringSlots ≤ 3584 ∧ s'.ringSlots % 64 = 0 ∧
        (s'.ringSlots ≠ s.ringSlots → s.replay.recorder.state = .idle ∧
          (o.memoryBeforeReplay = true → s.replay.player.state = .idle) ∧
          (s.ringSlots < s'.ringSlots → ∀ i : AssetId, s'.assets.recs[i].occupies = true →
            runsMeet s'.assets.recs[i].firstBlock s'.assets.recs[i].blocks (assetArea s'.ringSlots)
              (assetArea s.ringSlots - assetArea s'.ringSlots) = false))) ∧
      ∀ id ∈ groupTables, (∃ j ∈ groupTables, j < id ∧ s.loadComplete j = true) →
        s'.active[id] = s.active[id] ∧ s'.control.loads[id] = s.control.loads[id]

/-- A COMPLETE load handed to its owner at a frame start (R33). The first invalid index is the lowest whose entry is not valid. A
valid copy becomes the active copy, the load becomes IDLE, COMMIT_DONE is queued, and the commit has its table's effects: UNIT
(R45), MEMORY with the ring emptied and the marks EMPTY when R changes (R68), CLOCKS (R128; that an EXPIRED UP channel whose limit
is raised keeps its state and value is the model's choice, notes/assumptions/43.md), CONTRACTS (R148), LANES (R150) and CUES
(R189). A copy that is not valid is discarded: the active copy stays, the load becomes IDLE and COMMIT_REJECTED is queued with the
first invalid index. At an output frame start every COMPLETE load is handed over so, of the group of six the lowest alone (R34),
CLOCKS against its channels after their stages (R127), a late MEMORY against the player and the assets as it finds them, by the
operand's order (notes/assumptions/5.md); and where nothing else is reported, the commit's report stands alone in the queue, or
was taken by a report slot behind the commit. -/
def Obligations.CommitsTaken : Prop :=
  (∀ (n : Nat) (valid : Fin n → Bool),
    (firstBadFin n valid = none ↔ ∀ k, valid k = true) ∧
    ∀ k : Fin n, firstBadFin n valid = some k.val ↔ valid k = false ∧ ∀ j, j < k → valid j = true) ∧
  (∀ (n : Nat) (valid : Nat → Bool),
    (firstBad n valid = none ↔ ∀ k, k < n → valid k = true) ∧
    ∀ k, firstBad n valid = some k ↔ k < n ∧ valid k = false ∧ ∀ j, j < k → valid j = true) ∧
  (∀ (t : Time) (id : Fin 15) (st : List Byte) (s : State), s.control.loads[id] = .complete st →
    let old := s.active[id]
    let idle : State := { s with control.loads := s.control.loads.set id .idle }
    let done : State := { idle with active := s.active.set id st }
    let reported := fun v : State => raise .event 0 id.val (be 1 id.val) v
    (∀ k, firstInvalid s id st = some k → handTable t id s = raise .event 1 id.val (be 1 id.val ++ be 2 k) idle) ∧
    (firstInvalid s id st = none →
      (id ∉ [tblUnit, tblMemory, tblClocks, tblContracts, tblLanes, tblCues] → handTable t id s = reported done) ∧
      (id = tblUnit → handTable t id s = reported { done with
        control.unattendedTimer := if (unitOf old).timeoutS = (unitOf st).timeoutS then s.control.unattendedTimer
          else if (unitOf st).timeoutS = 0 then none else some (after t ((unitOf st).timeoutS * Config.ticksPerSecond))
        control.statusCount := if (unitOf old).statusInterval = (unitOf st).statusInterval then s.control.statusCount else 0 }) ∧
      (id = tblMemory → handTable t id s = reported (if ringSlotsOf old = ringSlotsOf st then done else { done with
        replay.ring := { slots := List.replicate (ringSlotsOf st) none, writePos := 0, present := 0, newest := none }
        replay.marks := Vector.replicate 16 .empty })) ∧
      (id = tblClocks → ∃ xs : Vector Clock 4, handTable t id s = reported { done with clocks := xs } ∧
        ∀ c : Fin 4, xs[c] = s.clocks[c].recommitted t (clockCfgAt old c) (clockCfgAt st c)) ∧
      (id = tblContracts → ∃ xs : Vector Accrual 64, handTable t id s = reported { done with sponsor.accruals := xs } ∧
        ∀ i : Fin 64, xs[i] = s.sponsor.accruals[i].recommitted (contractAt old i) (contractAt st i)) ∧
      (id = tblLanes → ∃ xs : Vector SponsorLane 8, handTable t id s = reported { done with sponsor.lanes := xs } ∧
        ∀ l : Fin 8, xs[l] = if (laneCfgAt old l).list = (laneCfgAt st l).list then s.sponsor.lanes[l]
          else { s.sponsor.lanes[l] with cursor := none }) ∧
      (id = tblCues → ∃ xs : Vector CueRecord 32, handTable t id s = reported { done with cues.records := xs } ∧
        ∀ i : Fin 32, xs[i] = s.cues.records[i].recommitted (entryOf old 16 i.val) (entryOf st 16 i.val)))) ∧
  ∀ (t : Time) (o : FrameOrder) (id : Fin 15) (st : List Byte) (s : State), s.quiet → s.timing.schedule.head? = some t →
    s.control.loads[id] = .complete st → (id ∈ groupTables → ∀ j ∈ groupTables, j < id → s.loadComplete j = false) →
    let messages := messageStages t (selectLayout s)
    let lateMemory := id = tblMemory ∧ o.memoryBeforeReplay = false
    let lateCues := id = tblCues ∧ o.triggersBeforeCues = true
    let found : State := if id = tblClocks then (List.finRange 4).foldl (clockStages t) s
      else if lateMemory then { s with
        replay.player := (playerFrame t { s with msgs := messages.msgs }).replay.player, assets := messages.assets }
      else s
    ∃ u, exec (.outputFrameStart t o) s = .next u ∧ u.control.loads[id] = .idle ∧
      (firstInvalid found id st ≠ none → u.active[id] = s.active[id]) ∧
      (firstInvalid found id st = none → u.active[id] = st ∧
        (id = tblUnit → (unitOf st).timeoutS ≠ s.unit.timeoutS → u.control.unattendedTimer =
          if (unitOf st).timeoutS = 0 then none else some (after t ((unitOf st).timeoutS * Config.ticksPerSecond))) ∧
        (id = tblMemory → ringSlotsOf st ≠ s.ringSlots → u.replay.marks = Vector.replicate 16 .empty ∧
          u.replay.ring = { slots := List.replicate (ringSlotsOf st) none, writePos := 0, present := 0, newest := none }) ∧
        (s.unarmed → s.loadComplete tblCues = false →
          (id = tblClocks → ∀ c : Fin 4, ∃ frame tenths, u.clocks[c] =
            { found.clocks[c].recommitted t (s.clockCfg c) (clockCfgAt st c) with frame := frame, frameTenths := tenths }) ∧
          (id = tblContracts → ∀ i : Fin 64, ∃ creative, u.sponsor.accruals[i] =
            { (accrue (elapsed s.timing.lastFrameStart t) s).sponsor.accruals[i].recommitted (s.contract i) (contractAt st i) with
              creative := creative })) ∧
        (s.unarmed → lateCues → ∀ i : Fin 32,
          u.cues.records[i] = s.cues.records[i].recommitted (s.entry tblCues i.val) (entryOf st 16 i.val))) ∧
      (id ≠ tblUnit → (id = tblCues → lateCues) → s.unarmed → s.still → (∀ j, j ≠ id → s.loadComplete j = false) →
        (∀ i, (s.receiver i).isLocked = true → (s.receiver i).feed = .live) → s.control.queue = [] →
        s.control.statusCount + 1 < s.unit.statusInterval →
        let report : Report := match firstInvalid found id st with
          | none => ⟨.event, 0, id.val, 0, be 1 id.val⟩
          | some k => ⟨.event, 1, id.val, 0, be 1 id.val ++ be 2 k⟩
        let taken := o.slotBeforeCommits = false ∧ id ≠ tblClocks ∧ ¬ lateMemory ∧ ¬ lateCues
        (¬ taken → u.control.queue = [report]) ∧
        (taken → u.control.queue = [] ∧ u.control.sent = some (reportPacket s.unit.address report)))

/-- The law of R39: no step makes the report queue hold two reports with the same kind and subject, or more than 128. -/
def Obligations.ReportLawKept : Prop := ∀ s s' : State, ReportLaw s → step s = .next s' → ReportLaw s'

/-- Raising a report: one pending with its kind and subject takes the new payload and one more REPEAT, up to 255, in its place;
else it joins at the newest place with REPEAT 0 where there is room; else, in a full queue, the newest report of the largest rank
number leaves where that number is greater, and else the new report is discarded, the lost report count rising by one, up to 255,
in both cases (R39, R40). A READBACK chunk that leaves so moves its readback on or ends it (R37); that the report takes the
chunk's room before the next chunk is raised, which is then discarded, is the model's choice (notes/assumptions/38.md). The bytes
of a report packet with its CHECK, and of a number, most significant first (R23, R38); that the four bits of UNIT above the
address are 0 is the model's choice (notes/assumptions/39.md). The REFUSAL report of a refused packet and the codes of the reasons
(R29, R38). The report slot: an empty queue sends a STATUS report built now; otherwise the report of the smallest rank number with
the oldest place leaves the queue and is sent, a STATUS built now (R41, R42). When it is a READBACK report, the cursor advances by
its bytes and the chunk number by one, and the next chunk of at most 56 bytes is queued, unless none is left and the readback ends
(R37). The status frame count at an output frame start: one more, or, where that reaches the status interval, 0 with a STATUS
report queued (R42). The 16 bytes of a STATUS report (R42). -/
def Obligations.ReportSlot : Prop :=
  (∀ (kind : ReportKind) (topic item : Nat) (payload : List Byte) (s : State),
    let q := s.control.queue
    let mine := fun r : Report => r.kind = kind ∧ r.topic = topic ∧ r.item = item
    let fresh : Report := ⟨kind, topic, item, 0, payload⟩
    let raised := raise kind topic item payload s
    let lost := min 255 (s.control.lost + 1)
    ((∃ r ∈ q, mine r) → raised = { s with control.queue := q.map fun r =>
      if r.kind = kind ∧ r.topic = topic ∧ r.item = item then
        { r with payload := payload, repeats := min 255 (r.repeats + 1) } else r }) ∧
    ((∀ r ∈ q, ¬ mine r) →
      (q.length < 128 → raised = { s with control.queue := q ++ [fresh] }) ∧
      (128 ≤ q.length →
        ((∀ r ∈ q, r.kind.rank ≤ kind.rank) → raised = { s with control.lost := lost }) ∧
        ∀ before old later, q = before ++ old :: later → kind.rank < old.kind.rank →
          (∀ r ∈ before, r.kind.rank ≤ old.kind.rank) → (∀ r ∈ later, r.kind.rank < old.kind.rank) →
          let full : State := { s with control.queue := before ++ later ++ [fresh], control.lost := lost }
          (old.kind ≠ .readback ∨ s.control.readback = none → raised = full) ∧
          ∀ rb, old.kind = .readback → s.control.readback = some rb →
            (rb.left ≤ 56 → raised = { full with control.readback := none }) ∧
            (56 < rb.left → (∀ r ∈ before ++ later, ¬ (r.kind = .readback ∧ r.topic = rb.table ∧ r.item = rb.chunk + 1)) →
              raised = { full with control.readback := none, control.lost := min 255 (lost + 1) })))) ∧
  (∀ (width n : Nat), (be width n).length = width ∧
    ∀ k, k < width → (be width n)[k]? = some (BitVec.ofNat 8 (n / 256 ^ (width - 1 - k)))) ∧
  (∀ bs : List Byte, crc16 [] = 0xFFFF ∧ ∀ b : Byte, crc16 (bs ++ [b]) =
    ([7, 6, 5, 4, 3, 2, 1, 0] : List Nat).foldl (fun (c : BitVec 16) k =>
      if c.getLsbD 15 = b.getLsbD k then c <<< 1 else c <<< 1 ^^^ 0x1021) (crc16 bs)) ∧
  (∀ (unit : BitVec 12) (r : Report),
    let code := match r.kind with
      | .feed => 1 | .refusal => 2 | .clock => 3 | .event => 4 | .readback => 5 | .status => 6
    let body := be 2 unit.toNat ++ be 1 code ++ be 1 r.topic ++ be 2 r.item ++ be 1 r.repeats ++
      be 1 r.payload.length ++ r.payload
    r.kind.rank = code ∧ reportPacket unit r = [0xB5, 0x4F] ++ body ++ be 2 (crc16 body).toNat) ∧
  (∀ (t : Time) (k : Kind) (why : Reason) (s : State),
    let code := match why with
      | .notLocked => 1 | .unknownKind => 2 | .badLength => 3 | .guarded => 4 | .isolated => 5 | .badTable => 6
      | .range => 7 | .order => 8 | .busy => 9 | .clamped => 10 | .inUse => 11 | .noSpace => 12 | .notReady => 13
      | .exhausted => 14 | .outOfRing => 15 | .notValid => 16 | .noClip => 17 | .notPaused => 18 | .limit => 19
      | .mode => 20 | .badField => 21 | .vacant => 22 | .full => 23 | .duplicate => 24 | .notFound => 25 | .notDefined => 26
    reasonCode why = code ∧ s.refusing t k why = raise .refusal 0 k.code (be 1 code ++ be 1 k.code) { s with count := t }) ∧
  (∀ s : State,
    (s.control.statusCount + 1 < s.unit.statusInterval →
      countFrame s = { s with control.statusCount := s.control.statusCount + 1 }) ∧
    (s.unit.statusInterval ≤ s.control.statusCount + 1 →
      countFrame s = raise .status 0 0 [] { s with control.statusCount := 0 })) ∧
  (∀ s : State,
    (s.control.queue = [] → takeSlot s = { s with
        control.sent := some (reportPacket s.unit.address ⟨.status, 0, 0, 0, s.statusPayload⟩), control.lost := 0 }) ∧
    ∀ (before rest : List Report) (r : Report), ReportLaw s → s.control.queue = before ++ r :: rest →
      (∀ x ∈ before, r.kind.rank < x.kind.rank) → (∀ x ∈ rest, r.kind.rank ≤ x.kind.rank) →
      let left : State :=
        { s with control.queue := before ++ rest, control.sent := some (reportPacket s.unit.address r) }
      (r.kind ≠ .status → r.kind ≠ .readback → takeSlot s = left) ∧
      (r.kind = .status → takeSlot s = { left with
        control.lost := 0
        control.sent := some (reportPacket s.unit.address { r with
          payload := ({ s with control.queue := before ++ rest } : State).statusPayload }) }) ∧
      (r.kind = .readback →
        (s.control.readback = none → takeSlot s = left) ∧
        ∀ rb, s.control.readback = some rb →
          (rb.left ≤ 56 → takeSlot s = { left with control.readback := none }) ∧
          (56 < rb.left → (∀ x ∈ before ++ rest, ¬ (x.kind = .readback ∧ x.topic = rb.table ∧ x.item = rb.chunk + 1)) →
            takeSlot s = { left with
              control.readback := some ⟨rb.table, rb.next + 56, rb.left - 56, rb.chunk + 1⟩
              control.queue := before ++ rest ++ [⟨.readback, rb.table, rb.chunk + 1, 0,
                ((s.readbackBytes rb.table).drop (rb.next + 56)).take (min 56 (rb.left - 56))⟩] }))) ∧
  ∀ s : State,
    let byte := fun n : Nat => BitVec.ofNat 8 n
    let feed := fun f : Feed => match f with | .live => 0 | .hold => 1 | .slate => 2
    let newest := s.replay.ring.newest.getD 0
    s.statusPayload =
      [byte (match s.timing.op with | .start => 0 | .seeking => 1 | .live => 2 | .hold => 3 | .fallback => 4 | .lockout => 5),
       byte (feed s.pgm.feed), byte (feed s.iso.feed), byte (s.control.health / 256), byte s.control.health,
       byte (if s.control.health ≤ 127 then 0 else if s.control.health ≤ 255 then 1 else 2),
       byte (if s.control.unattended then 1 else 0), byte (if s.msgs.takeover then 1 else 0),
       byte (match s.replay.recorder.state with | .idle => 0 | .recording => 1 | .wait => 2 | .held => 3),
       byte (match s.replay.player.state with | .idle => 0 | .cued => 1 | .playing => 2 | .paused => 3 | .suspended => 4),
       byte (newest / 16777216), byte (newest / 65536), byte (newest / 256), byte newest,
       byte s.comp.activeLayout.val, byte s.control.lost]

/-- UNATTENDED_TIMER_EXPIRY: the flag, the timer, the unattended layout and the STANDARD messages: in a queue that keeps its law,
those that are not showing leave with their pins, their MESSAGE_DONE UNATTENDED events and triggers, those that are showing stay
with their leaving flag, UNATTENDED unless one was set (that such a one stays is the model's choice, notes/assumptions/41.md), and
LEAD and EMERGENCY entries stay as they are; then the UNATTENDED trigger and the STATUS report, before the cue unit takes the
triggers (R43, R59, R170, R178, R181). That the messages leave in queue order, and that the UNATTENDED trigger comes behind theirs, is
the model's choice (notes/assumptions/30.md), and so is that all are raised before the cue unit takes the first
(notes/assumptions/44.md). An expiry that is not due has no effect: the model's choice
(notes/assumptions/8.md). -/
def Obligations.UnattendedExpiry : Prop :=
  ∀ (t : Time) (s : State), s.quiet →
    (due s.control.unattendedTimer t = false → exec (.unattendedTimerExpiry t) s = .next (s.at t)) ∧
    (due s.control.unattendedTimer t = true → MessageLaw s → ∃ v,
      exec (.unattendedTimerExpiry t) s = .next (settle v) ∧
      let gone := s.msgs.queue.filter fun e => decide (e.cls = .standard) && (s.msgs.showingIn e.tag).isNone
      v.msgs = { s.msgs with
        queue := (s.msgs.queue.filter fun e => decide (e.cls ≠ .standard) || (s.msgs.showingIn e.tag).isSome).map fun e =>
          if e.cls = .standard ∧ e.leaving = none then { e with leaving := some .unattended } else e } ∧
      v.cues = { s.cues with
        pendingTriggers := gone.map (fun e => ⟨t, .messageDone e.tag .unattended⟩) ++ [⟨t, .unattended⟩] } ∧
      v.control = (raise .status 0 0 [] (gone.foldl (fun v e => raise .event 9 e.tag
        (be 2 e.tag ++ be 1 e.cls.rank ++ be 1 5 ++ be 1 255 ++ be 1 e.passes) v)
          { s with control.unattended := true, control.unattendedTimer := none })).control ∧
      v.assets = (gone.foldl (fun v e => releasePin e.strip v) s).assets ∧
      v.comp = { s.comp with
        pendingLayout := match s.unit.layout with | some n => some n | none => s.comp.pendingLayout } ∧
      v.active = s.active ∧ v.clocks = s.clocks ∧ v.score = s.score ∧ v.sponsor = s.sponsor ∧ v.replay = s.replay ∧
      v.timing = s.timing ∧ v.pgm = s.pgm ∧ v.iso = s.iso ∧ v.count = t)

/-! ### Zones, layouts and composition -/

/-- LAYOUT_SELECT: a number above 3 is refused with RANGE, another becomes the pending selection (R59). A zone covers the tiles
whose column and row agree with its bases in every bit that its masks leave clear; one whose masks are the runs of the lowest k
columns and j rows covers the tiles that agree with its bases above those runs, so that a mask of all ones takes every column and
a mask of 0 exactly the base's (R47, R48). Which zones are presentable (R52); and the compositor's pins after a frame start: on
the wanted assets, those of enabled ASSET zones, those that the defined panels of enabled PANEL zones name, and the slate asset,
of which it had a pin or which are READY, each asset's pin count rising or falling with its pin, and a DOOMED asset being freed
with its last one (R64, R77, R79); which assets a defined panel names is read from its field records by their kinds (deduced,
notes/assumptions/22.md). The tile map of a frame: outside takeover the top layer of a tile is the lowest-numbered zone that is
enabled, presentable and covers it, and the second layer the next such zone; under takeover only a kept PANEL zone is drawn beside
the emergency lane (R54, R56). At a frame start a pending selection becomes the active layout and is cleared (R59). -/
def Obligations.LayoutsAndZones : Prop :=
  (∀ (t : Time) (layout : Byte) (s : State), s.takes .layoutSelect →
      (3 < layout.toNat → exec (.layoutSelect t layout) s = .next (s.refusing t .layoutSelect .range)) ∧
      ∀ n : Fin 4, layout.toNat = n.val →
        exec (.layoutSelect t layout) s = .next { s with count := t, comp.pendingLayout := some n }) ∧
  (∀ s : State, selectLayout s = { s with
    comp.activeLayout := s.comp.pendingLayout.getD s.comp.activeLayout, comp.pendingLayout := none }) ∧
  (∀ (z : Zone) (c r : Nat), z.covers c r = true ↔
    (∀ i, i < 9 → z.colMask.getLsbD i = true ∨ z.colBase.getLsbD i = c.testBit i) ∧
    ∀ i, i < 8 → z.rowMask.getLsbD i = true ∨ z.rowBase.getLsbD i = r.testBit i) ∧
  (∀ (z : Zone) (k j c r : Nat), k ≤ 9 → j ≤ 8 → c < 512 → r < 256 →
      z.colMask = BitVec.ofNat 9 (2 ^ k - 1) → z.rowMask = BitVec.ofNat 8 (2 ^ j - 1) →
      (z.covers c r = true ↔ c / 2 ^ k = z.colBase.toNat / 2 ^ k ∧ r / 2 ^ j = z.rowBase.toNat / 2 ^ j)) ∧
  (∀ (s : State) (z : Zone), presentable s z = true ↔ match z.source with
    | .none => False
    | .replay => s.replay.player.state ≠ .idle
    | .message m => ∃ tag, s.msgs.lanes[m].current = some tag ∧ ∃ e ∈ s.msgs.queue, e.tag = tag
    | .panel p => 1 ≤ (panelAt s.active[tblPanels] p).width ∧ 1 ≤ (panelAt s.active[tblPanels] p).height
    | .asset id => s.assets.recs[id].state = .ready ∨ (s.assets.recs[id].state = .doomed ∧ id ∈ s.comp.pins)
    | _ => True) ∧
  (∀ s : State,
    let shows := fun (p : Fin 8) (id : AssetId) =>
      let cfg := panelAt s.active[tblPanels] p
      1 ≤ cfg.width ∧ 1 ≤ cfg.height ∧ (cfg.background = some id ∨ ∃ f ∈ cfg.fields, f.kind ≠ 0 ∧
        (f.home = some id ∨ f.away = some id ∨ (f.kind ≠ 4 ∧ f.digitSet = some id)))
    let wanted := fun id : AssetId => s.device.slateAsset = some id ∨ ∃ i : Fin 16, s.zones[i].enable = true ∧
      (s.zones[i].source = .asset id ∨ ∃ p, s.zones[i].source = .panel p ∧ shows p id)
    let u := updatePins s
    (∀ id : AssetId, id ∈ u.comp.pins ↔ wanted id ∧ (id ∈ s.comp.pins ∨ s.assets.recs[id].state = .ready)) ∧
    u = { s with comp.pins := u.comp.pins, assets.recs := u.assets.recs } ∧
    (PinLaw s → PinLaw u ∧ ∀ id : AssetId,
      let a := s.assets.recs[id]
      (wanted id → id ∉ s.comp.pins → a.state = .ready → u.assets.recs[id] = { a with pins := a.pins + 1 }) ∧
      (¬ wanted id → id ∈ s.comp.pins → u.assets.recs[id] =
        if a.state = .doomed ∧ a.pins ≤ 1 then Asset.empty else { a with pins := a.pins - 1 }) ∧
      ((wanted id ↔ id ∈ s.comp.pins) ∨ (id ∉ s.comp.pins ∧ a.state ≠ .ready) → u.assets.recs[id] = a))) ∧
  ∀ (s : State) (c r : Nat),
    let fits := fun i : Fin 16 => s.zones[i].enable = true ∧ presentable s s.zones[i] = true ∧ s.zones[i].covers c r = true
    let layers := (buildMap s).layers c r
    (s.msgs.takeover = false →
      ((∀ i, ¬ fits i) → layers = (.none, .slate)) ∧
      (∀ i, fits i → (∀ j, j < i → ¬ fits j) →
        layers.1 = .zone i s.zones[i] ∧ ((∀ j, i < j → ¬ fits j) → layers.2 = .slate) ∧
        ∀ j, i < j → fits j → (∀ n, i < n → n < j → ¬ fits n) → layers.2 = .zone j s.zones[j])) ∧
    (s.msgs.takeover = true →
      ((∀ i, ¬ fits i) → layers = (.emergency, .slate)) ∧
      (∀ i, fits i → (∀ j, j < i → ¬ fits j) →
        layers = if s.keepPanels = true ∧ s.zones[i].isPanel = true then (.zone i s.zones[i], .emergency)
          else (.emergency, .slate)))

/-- The visible tile count of a zone: the tiles of the canvas that lie in at least one enabled segment and whose top layer is that
zone, each counted once; the counts are taken of the frame's map with the zones' sources; together they are no more than the
canvas holds, and under takeover a zone that is no PANEL counts nothing, so that no sponsor lane has a tile to be paid for (R57,
R152). The exposure of the frame just ended (R152, R153): each contract receives its lanes' visible tiles times the frame's ticks,
in tile-ms with the remainder carried; a VACANT one and one no lane showed receive nothing; and only an ACTIVE contract's wall
elapsed rises. That a VACANT contract is not paid for a lane that still names it follows R146 (notes/assumptions/20.md). -/
def Obligations.VisibleTilesAndAccrual : Prop :=
  (∀ s : State,
    let sent := fun c r : Nat => ∃ n : Fin 4, s.segments[n].enable = true ∧
      s.segments[n].x0 ≤ c ∧ c < s.segments[n].x0 + s.segments[n].width ∧
      s.segments[n].y0 ≤ r ∧ r < s.segments[n].y0 + s.segments[n].height
    (∀ (i : Fin 16) (tiles : List (Nat × Nat)), tiles.Nodup →
      (∀ c r, (c, r) ∈ tiles ↔ c < s.device.wTiles ∧ r < s.device.hTiles ∧ sent c r ∧
        ∃ z, ((buildMap s).layers c r).1 = .zone i z) →
      visibleTiles (buildMap s) s.segments i = tiles.length) ∧
    (∀ i : Fin 16, (countsOf s (buildMap s))[i] =
      ⟨s.zones[i].source, visibleTiles (buildMap s) s.segments i⟩) ∧
    ((List.finRange 16).map fun i => visibleTiles (buildMap s) s.segments i).sum ≤ s.device.wTiles * s.device.hTiles ∧
    (s.msgs.takeover = true →
      (∀ i : Fin 16, s.zones[i].isPanel = false → visibleTiles (buildMap s) s.segments i = 0) ∧
      ∀ l : Fin 8, laneTiles (countsOf s (buildMap s)) l = 0)) ∧
  (∀ (counts : Vector ZoneCount 16) (l : Fin 8), laneTiles counts l =
    ((List.finRange 16).map fun i => if counts[i].source = .sponsor l then counts[i].tiles else 0).sum) ∧
  ∀ (s : State) (dt : Nat) (i : Fin 64), SponsorLaw s →
    let a := s.sponsor.accruals[i]
    let b := (accrue dt s).sponsor.accruals[i]
    let sum := ((List.finRange 8).map fun l =>
      if s.sponsor.lanes[l].contract = some i then laneTiles s.comp.visible l * dt else 0).sum
    (∃ v, accrue dt s = { s with sponsor.accruals := v }) ∧
    (a.state = .vacant → b = a) ∧
    (a.state ≠ .vacant →
      (b.accrued < Config.accountTop → b.accrued * 27000 + b.remainder = a.accrued * 27000 + a.remainder + sum) ∧
      a.accrued ≤ b.accrued ∧ b.remainder < 27000 ∧ b.state = a.state ∧ b.period = a.period ∧ b.creative = a.creative ∧
      b.met = (a.met || decide ((s.contract i).target ≤ b.accrued)) ∧
      b.wall = if a.state = .active then min Config.accountTop (a.wall + dt) else a.wall)

/-- What the frame composed from a state shows. The blend of a channel (R55); the window and the local pixel of a zone whose masks
have low runs of k and j ones (R48); a source drawn at each scale, its block averages with transparent pixels beyond the image
(R49); the picture each source offers, and an asset's from its DRAM bytes, at the frame number's frame for a SEQUENCE (R50, R70,
R80); slate, with a usable slate asset centred over the colour (R51); the canvas, each pixel the top layer's blended over the
second layer's taken opaque, the slate colour standing in for a second layer beyond its image, and the emergency lane drawn on the
canvas itself (R55, R56); and what each output link sends (R62). That a DOOMED slate asset under the compositor's pin is still
drawn is the model's deduction (notes/assumptions/21.md). What HOLD offers is the model's deduction (notes/assumptions/32.md); so
is that a second layer's reduced pixel counts as beyond its image by its top left source pixel (notes/assumptions/18.md), and that
a kept panel lies over the emergency lane's red, green and blue where the lane draws nothing (notes/assumptions/19.md). -/
def Obligations.CanvasPictures : Prop :=
  (∀ top below : Pixel,
    let mix := fun x y => (top.a * x + (255 - top.a) * y + 127) / 255
    blend top below = ⟨mix top.r below.r, mix top.g below.g, mix top.b below.b, 255⟩ ∧
    (top.a = 255 → blend top below = top) ∧ (top.a = 0 → blend top below = { below with a := 255 })) ∧
  (∀ (z : Zone) (k j w h x y : Nat), k ≤ 9 → j ≤ 8 →
    (∀ i, i < k → z.colMask.getLsbD i = true) → z.colMask.getLsbD k = false →
    (∀ i, i < j → z.rowMask.getLsbD i = true) → z.rowMask.getLsbD j = false →
    z.local x y = (8 * (x / 8 % 2 ^ k) + x % 8, 8 * (y / 8 % 2 ^ j) + y % 8) ∧
    zoneWindow z w h = (8 * min (2 ^ k) w, 8 * min (2 ^ j) h)) ∧
  (∀ (z : Zone) (p : Pic) (x y : Nat),
    let source := fun u v => if u < p.width ∧ v < p.height then p.pixel u v else ⟨0, 0, 0, 0⟩
    let block := fun n u v =>
      let mean := fun ch : Pixel → Nat =>
        (((List.range n).map fun j => ((List.range n).map fun i => ch (source (u + i) (v + j))).sum).sum + n * n / 2) / (n * n)
      (⟨mean (·.r), mean (·.g), mean (·.b), mean (·.a)⟩ : Pixel)
    (z.scale = 0 → z.draw p x y = block 4 (z.offsetX + 4 * x) (z.offsetY + 4 * y)) ∧
    (z.scale = 1 → z.draw p x y = block 2 (z.offsetX + 2 * x) (z.offsetY + 2 * y)) ∧
    ∀ n, 1 ≤ n → z.scale = n + 1 → z.draw p x y = source (z.offsetX + x / n) (z.offsetY + y / n)) ∧
  (∀ (p : Picture) (x y : Nat), (picOf p).width = p.width ∧ (picOf p).height = p.height ∧
    let c := p.pixels.getD (y * p.width + x) ⟨0, 0, 0⟩
    (picOf p).pixel x y = ⟨c.r.toNat, c.g.toNat, c.b.toNat, 255⟩) ∧
  ∀ s : State,
    let m := buildMap s
    let sc := sceneOf s m
    let colour : Pixel :=
      ⟨s.device.slateColour.r.toNat, s.device.slateColour.g.toNat, s.device.slateColour.b.toNat, 255⟩
    let usable := fun (k : AssetKind) (id : AssetId) => s.assets.recs[id].kind = k ∧
      (s.assets.recs[id].state = .ready ∨ (s.assets.recs[id].state = .doomed ∧ id ∈ s.comp.pins))
    (∀ (id : AssetId) (x y : Nat),
      let a := s.assets.recs[id]
      let frame := if a.kind = .sequence then s.comp.frameNumber.toNat / a.interval % a.frames else 0
      let place := a.firstBlock * 65536 + 4 * (x + a.width * (y + a.height * frame))
      let byte := fun n => (s.assets.dram.read (place + n)).toNat
      (sc.assetPic id).width = a.width ∧ (sc.assetPic id).height = a.height ∧
        (sc.assetPic id).pixel x y = ⟨byte 0, byte 1, byte 2, byte 3⟩) ∧
    sc.offered .program = ((match s.timing.op with
      | .live => s.pgm.frozen | .hold => s.pgm.held | _ => none).map fun f : Frozen => picOf f.picture) ∧
    sc.offered .iso = ((match s.iso.feed with
      | .live => s.iso.frozen | .hold => s.iso.held | .slate => none).map fun f : Frozen => picOf f.picture) ∧
    (∀ shown f, s.replay.player.presented = some shown → s.replay.ring.frame shown.number = some f →
      sc.offered .replay = some (picOf f.picture)) ∧
    (∀ l : Fin 8,
      let lane := s.sponsor.lanes[l]
      (∀ c, lane.contract = some c → ∀ id, lane.creative = some id → sc.offered (.sponsor l) = some (sc.assetPic id)) ∧
      (lane.contract = none → (∀ id, lane.pinned = some id → sc.offered (.sponsor l) = some (sc.assetPic id)) ∧
        (lane.pinned = none → ∃ p, sc.offered (.sponsor l) = some p ∧ p.width = 0 ∧ p.height = 0))) ∧
    (∀ n : Fin 4, sc.offered (.message n) = some (sc.lanePic (s.lanePicture n.castSucc))) ∧
    (∀ p : Fin 8, sc.offered (.panel p) = some (sc.panelPic p)) ∧
    (∀ id : AssetId, sc.offered (.asset id) = some (sc.assetPic id)) ∧ sc.offered .slate = none ∧
    (∀ (window : Nat × Nat) (x y : Nat),
      ((∀ id, s.device.slateAsset = some id → ¬ usable .image id) → sc.slateAt window x y = colour) ∧
      ∀ id, s.device.slateAsset = some id → usable .image id →
        let p := sc.assetPic id
        let u := (x : Int) - ((window.1 : Int) - p.width) / 2
        let v := (y : Int) - ((window.2 : Int) - p.height) / 2
        sc.slateAt window x y =
          if 0 ≤ u ∧ u < p.width ∧ 0 ≤ v ∧ v < p.height then blend (p.pixel u.toNat v.toNat) colour else colour) ∧
    (∀ x y : Nat, x < 8 * s.device.wTiles → y < 8 * s.device.hTiles →
      let layers := m.layers (x / 8) (y / 8)
      let shown := fun l : Layer => match l with
        | .none => ⟨0, 0, 0, 0⟩
        | .slate => colour
        | .emergency => (sc.lanePic (s.lanePicture 4)).pixel x y
        | .zone _ z => match sc.offered z.source with
          | none => sc.slateAt (zoneWindow z s.device.wTiles s.device.hTiles) (z.local x y).1 (z.local x y).2
          | some p => z.draw p (z.local x y).1 (z.local x y).2
      let beyond := match layers.2 with
        | .zone _ z => ∃ p, sc.offered z.source = some p ∧
          let moved := fun n => match z.scale with | 0 => 4 * n | 1 => 2 * n | k => n / (k - 1)
          ¬ (z.offsetX + moved (z.local x y).1 < p.width ∧ z.offsetY + moved (z.local x y).2 < p.height)
        | _ => False
      (beyond → sc.canvas x y = blend (shown layers.1) colour) ∧
      (¬ beyond → sc.canvas x y = blend (shown layers.1) (shown layers.2))) ∧
    ∀ i : Fin 4,
      let g := s.segments[i]
      (g.enable = false → sc.linkPicture i = none) ∧
      (g.enable = true → ∃ p, sc.linkPicture i = some p ∧ p.width = 8 * g.width ∧ p.height = 8 * g.height ∧
        ∀ x y, p.pixel x y = sc.canvas (8 * g.x0 + x) (8 * g.y0 + y))

/-- What panels and message lanes draw. A picture of drawings: at each pixel the last drawing that covers it with an alpha above
0, else transparent (R138, R179). The cells of a number read back as that number, with no leading zero (R139); a string's place in
its row (R139); the string of a clock value by its format, direction and tenths threshold (R141). For the frame composed from a
state: a cell of a digit set (R138); the row of a SCORE, CLOCK or REPLAY_CLOCK field from the frame copy, the channel's frame
value or the presented frame's snapshot, with the dashes of the stale style (R140 to R142); the drawings of a field and of a
panel, with assets that are not usable left out (R138, R143); and a lane's picture, of the lane size of its lowest-numbered
enabled zone, or of the canvas, with the current entry's strip at its place (R53, R179). -/
def Obligations.PanelAndLanePictures : Prop :=
  (∀ (w h : Nat) (ds : List Drawing) (x y : Nat),
    let place := fun d : Drawing => ((x : Int) - d.x, (y : Int) - d.y)
    let pixel := fun d : Drawing => d.pic.pixel (place d).1.toNat (place d).2.toNat
    let covers := fun d : Drawing => 0 ≤ (place d).1 ∧ (place d).1 < d.pic.width ∧ 0 ≤ (place d).2 ∧
      (place d).2 < d.pic.height ∧ 0 < (pixel d).a
    (drawn w h ds).width = w ∧ (drawn w h ds).height = h ∧
    ((∀ d ∈ ds, ¬ covers d) → (drawn w h ds).pixel x y = ⟨0, 0, 0, 0⟩) ∧
    ∀ before d later, ds = before ++ d :: later → covers d → (∀ e ∈ later, ¬ covers e) →
      (drawn w h ds).pixel x y = pixel d) ∧
  (∀ n : Nat, (numberCells n).foldl (fun v d => 10 * v + d) 0 = n ∧ (∀ d ∈ numberCells n, d ≤ 9) ∧
    (numberCells 0 = [0]) ∧ (0 < n → (numberCells n).head? ≠ some 0)) ∧
  (∀ (n : Nat) (zero : Bool) (str : List Nat), (rowOf n zero str).length = n ∧
    (n < str.length → rowOf n zero str = List.replicate n 13) ∧
    (str.length ≤ n → rowOf n zero str = List.replicate (n - str.length) (if zero = true then 0 else 12) ++ str)) ∧
  (∀ (format : Nat) (d : Direction) (threshold v : Nat),
    let tenths := if d = .down then (v + 2699999) / 2700000 else v / 2700000
    let seconds := if d = .down then (v + 26999999) / 27000000 else v / 27000000
    clockCells format d threshold v = if format = 2 ∨ (format = 0 ∧ (v = 0 ∨ tenths < threshold)) then
        numberCells (tenths / 10) ++ [11, tenths % 10]
      else numberCells (seconds / 60) ++ [10, seconds % 60 / 10, seconds % 60 % 10]) ∧
  ∀ s : State,
    let sc := sceneOf s (buildMap s)
    let usable := fun (k : AssetKind) (id : AssetId) => s.assets.recs[id].kind = k ∧
      (s.assets.recs[id].state = .ready ∨ (s.assets.recs[id].state = .doomed ∧ id ∈ s.comp.pins))
    (∀ (id : AssetId) (c x y : Nat),
      let w := s.assets.recs[id].width / 14
      (sc.cell id c).width = w ∧ (sc.cell id c).height = s.assets.recs[id].height ∧
        (c < 14 → x < w → y < s.assets.recs[id].height → (sc.cell id c).pixel x y = (sc.assetPic id).pixel (c * w + x) y)) ∧
    (∀ f : FieldCfg,
      let clock := fun (n : Fin 4) (d : Direction) (v : Nat) (stale : Bool) =>
        if stale = true ∧ f.dashes = true then List.replicate f.digits 13
        else rowOf f.digits f.zeroLead (clockCells f.format d (s.clockCfg n).tenths v)
      let image := fun id : Option AssetId => fun ds : List Drawing =>
        (∀ a, id = some a → usable .image a → ds = [⟨sc.assetPic a, f.x, f.y⟩]) ∧
        ((∀ a, id = some a → ¬ usable .image a) → ds = [])
      (∀ n : Fin 16, f.kind = 1 → f.index = n.val →
        sc.fieldRow f = rowOf f.digits f.zeroLead (numberCells s.score.frameCopy[n])) ∧
      (∀ n : Fin 4, f.index = n.val →
        (f.kind = 2 → sc.fieldRow f = clock n (s.clockCfg n).direction s.clocks[n].frame.value s.clocks[n].frame.stale) ∧
        (f.kind = 3 →
          (s.replay.player.presented = none → sc.fieldRow f = List.replicate f.digits 12) ∧
          ∀ shown r, s.replay.player.presented = some shown → s.replay.ring.frame shown.number = some r →
            sc.fieldRow f = clock n r.snapshot[n].direction r.snapshot[n].value r.snapshot[n].stale)) ∧
      (f.kind = 0 → sc.fieldDrawings f = []) ∧
      (1 ≤ f.kind → f.kind ≤ 3 →
        ((∀ id, f.digitSet = some id → ¬ usable .digitSet id) → sc.fieldDrawings f = []) ∧
        ∀ id, f.digitSet = some id → usable .digitSet id →
          (sc.fieldDrawings f).length = (sc.fieldRow f).length ∧
          ∀ (i c : Nat), (sc.fieldRow f)[i]? = some c → (sc.fieldDrawings f)[i]? =
            some ⟨sc.cell id c, ((f.x + i * (s.assets.recs[id].width / 14) : Nat) : Int), (f.y : Int)⟩) ∧
      (f.kind = 4 →
        (s.score.frameCopy[fieldPossession] = 1 → image f.home (sc.fieldDrawings f)) ∧
        (s.score.frameCopy[fieldPossession] = 2 → image f.away (sc.fieldDrawings f)) ∧
        (s.score.frameCopy[fieldPossession] = 0 → sc.fieldDrawings f = []))) ∧
    (∀ p : Fin 8,
      let cfg := panelAt s.active[tblPanels] p
      ∃ ground, sc.panelPic p = drawn cfg.width cfg.height (ground ++ cfg.fields.flatMap sc.fieldDrawings) ∧
        ((∀ a, cfg.background = some a → ¬ usable .image a) → ground = []) ∧
        ∀ a, cfg.background = some a → usable .image a → ground = [⟨sc.assetPic a, 0, 0⟩]) ∧
    (∀ n : Fin 4,
      let mine := fun i : Fin 16 => s.zones[i].enable = true ∧ s.zones[i].source = .message n
      ((∀ i, ¬ mine i) → s.laneSize n = (0, 0)) ∧
      ∀ i, mine i → (∀ j, j < i → ¬ mine j) → s.laneSize n = zoneWindow s.zones[i] s.device.wTiles s.device.hTiles) ∧
    ∀ n : Fin 5,
      let lane := s.msgs.lane n
      let size := if h : n.val < 4 then s.laneSize ⟨n.val, h⟩ else (8 * s.device.wTiles, 8 * s.device.hTiles)
      ((∀ tag, lane.current = some tag → s.msgs.entry tag = none) →
        sc.lanePic (s.lanePicture n) = drawn size.1 size.2 []) ∧
      ∀ tag e, lane.current = some tag → s.msgs.entry tag = some e →
        sc.lanePic (s.lanePicture n) = drawn size.1 size.2 [⟨sc.assetPic e.strip, if e.mode = .crawl then lane.x / 256 else 0,
          ((lane.passHeight : Int) - s.assets.recs[e.strip].height) / 2⟩]

/-- Every step keeps the canvas in its range, every enabled segment inside it and every zone base of the four layouts inside
it (R20, R34, R60, R63); and at most one pin of the compositor on an asset (R64). -/
def Obligations.CanvasLawKept : Prop :=
  (∀ s s' : State, CanvasLaw s → step s = .next s' → CanvasLaw s') ∧
    ∀ s s' : State, PinLaw s → step s = .next s' → PinLaw s'

/-! ### The asset store -/

/-- The limits of each kind, with the recorded width and the block count (R69). A run is free when it lies in the asset area,
below the ring, and meets no run of another asset that holds blocks (R66, R71, R72). First fit: the run found is free and inside
the asset area, and no lower block begins such a run; none is found only when there is none (R72). ASSET_OPEN: RANGE, IN_USE and
NO_SPACE in that order, and the record of a load that begins on that run (R69, R71, R72, R75). -/
def Obligations.AssetOpen : Prop :=
  (∀ (k : AssetKind) (width height frames interval code size : Nat),
    let limits := fun w h n : Nat => 1 ≤ width ∧ width ≤ w ∧ 1 ≤ height ∧ height ≤ h ∧ 1 ≤ frames ∧ frames ≤ n ∧
      1 ≤ interval ∧ interval ≤ 255
    (k.admits width height frames interval = true ↔ match k with
      | .image => limits 4096 2048 1
      | .strip => limits 32768 256 1
      | .digitSet => limits 256 512 1
      | .sequence => limits 4096 2048 255) ∧
    (assetKind? code = some k ↔ code = match k with | .image => 0 | .strip => 1 | .digitSet => 2 | .sequence => 3) ∧
    k.recordWidth width = (if k = .digitSet then 14 * width else width) ∧ blocksFor size = (size + 65535) / 65536) ∧
  (∀ (r x n y k : Nat) (a : Asset), assetArea r = 524288 - 128 * r ∧ (a.occupies = true ↔ a.state ≠ .empty) ∧
    (runsMeet x n y k = true ↔ x < y + k ∧ y < x + n)) ∧
  (∀ (s : State) (a : AssetId) (n x : Nat),
    runFree (assetArea s.ringSlots) (s.others a) n x = true ↔ x + n ≤ 524288 - 128 * s.ringSlots ∧
      ∀ i : AssetId, i ≠ a → s.assets.recs[i].state ≠ .empty →
        x + n ≤ s.assets.recs[i].firstBlock ∨ s.assets.recs[i].firstBlock + s.assets.recs[i].blocks ≤ x) ∧
  (∀ (area n : Nat) (taken : List Asset), 1 ≤ n → (∀ a ∈ taken, 1 ≤ a.blocks) →
      (∀ x, firstFit area taken n = some x ↔
        (runFree area taken n x = true ∧ ∀ y, y < x → runFree area taken n y = false)) ∧
      (firstFit area taken n = none ↔ ∀ y, runFree area taken n y = false)) ∧
  (∀ (t : Time) (id : BitVec 16) (kind : Byte) (width height : BitVec 16) (frames interval : Byte) (s : State),
      s.takes .assetOpen →
      let c := Instr.assetOpen t id kind width height frames interval
      (511 < id.toNat ∨ 3 < kind.toNat → exec c s = .next (s.refusing t .assetOpen .range)) ∧
      ∀ (a : AssetId) (k : AssetKind), id.toNat = a.val → assetKind? kind.toNat = some k →
        let size := k.recordWidth width.toNat * height.toNat * 4 * frames.toNat
        let old := s.assets.recs[a]
        (k.admits width.toNat height.toNat frames.toNat interval.toNat = false →
          exec c s = .next (s.refusing t .assetOpen .range)) ∧
        (k.admits width.toNat height.toNat frames.toNat interval.toNat = true →
          (old.state = .doomed ∨ (old.state = .ready ∧ 0 < old.pins) →
            exec c s = .next (s.refusing t .assetOpen .inUse)) ∧
          (old.state ≠ .doomed → ¬ (old.state = .ready ∧ 0 < old.pins) →
            (firstFit (assetArea s.ringSlots) (s.others a) (blocksFor size) = none →
              exec c s = .next (s.refusing t .assetOpen .noSpace)) ∧
            ∀ x, firstFit (assetArea s.ringSlots) (s.others a) (blocksFor size) = some x →
              exec c s = .next ((s.at t).setAsset a
                { state := .loading, kind := k, width := k.recordWidth width.toNat, height := height.toNat,
                  frames := frames.toNat, interval := interval.toNat, dataSize := size, firstBlock := x,
                  blocks := (size + 65535) / 65536, received := 0, crc := 0xFFFFFFFF,
                  timer := some (after t 270000000), pins := 0 }))))

/-- The payloads of ASSET_READY and ASSET_FAILED (R81), the length of a segment (R73) and the running check, bit by bit (R74).
ASSET_DATA and ASSET_CLOSE: their refusals; the bytes a segment stores, the running check and the restarted timer; and the end of
a load as READY or, short or with a check that differs, as EMPTY (R70, R73, R74, R81). That ORDER is tested before the RANGE of a
segment's end is the model's choice (notes/assumptions/35.md). That a segment whose record points beyond the DRAM, which no state
the part reaches has, faults is the model's choice (notes/assumptions/26.md). ASSET_DROP by the asset's state, and the expiry of
an asset's load timer (R75, R78, R81); that an expiry which is not due only sets the count is the model's choice
(notes/assumptions/8.md). A pin request and a pin release (R77, R79). A byte read from the DRAM after a store is the byte stored
there, and every other byte reads as before (R70). An address that is not listed reads as 0, and none is listed after device
reset: the model's choice (notes/assumptions/3.md). -/
def Obligations.AssetLoad : Prop :=
  (∀ (i : AssetId) (a : Asset) (reason received : Nat) (s : State),
    readyEvent i a s = raise .event 3 i.val (be 2 i.val ++
      be 1 (match a.kind with | .image => 0 | .strip => 1 | .digitSet => 2 | .sequence => 3) ++ be 3 a.firstBlock ++
      be 3 a.blocks) s ∧
    failedEvent i reason received s = raise .event 4 i.val (be 2 i.val ++ be 1 reason ++ be 5 received) s) ∧
  (∀ data : List Byte, segmentFits data = true ↔ 1 ≤ data.length ∧ data.length ≤ 241) ∧
  (∀ (c : BitVec 32) (bs : List Byte), crc32Run c [] = c ∧ ∀ b : Byte, crc32Run c (bs ++ [b]) =
    (List.range 8).foldl (fun (x : BitVec 32) _ => if x.getLsbD 0 = true then x >>> 1 ^^^ 0xEDB88320 else x >>> 1)
      (crc32Run c bs ^^^ b.setWidth 32)) ∧
  ((∀ (t : Time) (id : BitVec 16) (offset : BitVec 40) (data : List Byte) (s : State), s.takes .assetData →
      (segmentFits data = false → exec (.assetData t id offset data) s = .next (s.refusing t .assetData .badLength)) ∧
      (segmentFits data = true → 511 < id.toNat →
        exec (.assetData t id offset data) s = .next (s.refusing t .assetData .range)) ∧
      ∀ a : AssetId, segmentFits data = true → id.toNat = a.val →
        let old := s.assets.recs[a]
        (old.state ≠ .loading ∨ offset.toNat ≠ old.received →
          exec (.assetData t id offset data) s = .next (s.refusing t .assetData .order)) ∧
        (old.state = .loading → offset.toNat = old.received → old.dataSize < old.received + data.length →
          exec (.assetData t id offset data) s = .next (s.refusing t .assetData .range)) ∧
        (old.state = .loading → offset.toNat = old.received → old.received + data.length ≤ old.dataSize →
          (old.firstBlock * 65536 + old.received + data.length ≤ Config.dramBytes →
            exec (.assetData t id offset data) s = .next { s with count := t, assets :=
              { recs := s.assets.recs.set a { old with received := old.received + data.length, crc := crc32Run old.crc data,
                                                       timer := some (after t 270000000) },
                dram := s.assets.dram.write (old.firstBlock * 65536 + old.received) data } }) ∧
          (Config.dramBytes < old.firstBlock * 65536 + old.received + data.length →
            exec (.assetData t id offset data) s = .fault .dramAddress))) ∧
      ∀ (t : Time) (id : BitVec 16) (check : BitVec 32) (s : State), s.takes .assetClose →
        (511 < id.toNat → exec (.assetClose t id check) s = .next (s.refusing t .assetClose .range)) ∧
        ∀ a : AssetId, id.toNat = a.val →
          let old := s.assets.recs[a]
          (old.state ≠ .loading → exec (.assetClose t id check) s = .next (s.refusing t .assetClose .order)) ∧
          (old.state = .loading → old.received = old.dataSize → ~~~ old.crc = check →
            exec (.assetClose t id check) s =
              .next (readyEvent a old ((s.at t).setAsset a { old with state := .ready, timer := none }))) ∧
          (old.state = .loading → old.received ≠ old.dataSize →
            exec (.assetClose t id check) s = .next (failedEvent a 0 old.received ((s.at t).setAsset a Asset.empty))) ∧
          (old.state = .loading → old.received = old.dataSize → ~~~ old.crc ≠ check →
            exec (.assetClose t id check) s = .next (failedEvent a 1 old.received ((s.at t).setAsset a Asset.empty)))) ∧
  ((∀ (t : Time) (id : BitVec 16) (s : State), s.takes .assetDrop →
      (511 < id.toNat → exec (.assetDrop t id) s = .next (s.refusing t .assetDrop .range)) ∧
      ∀ a : AssetId, id.toNat = a.val →
        (s.assets.recs[a].state = .empty ∨ s.assets.recs[a].state = .doomed →
          exec (.assetDrop t id) s = .next (s.at t)) ∧
        (s.assets.recs[a].state = .loading ∨ (s.assets.recs[a].state = .ready ∧ s.assets.recs[a].pins = 0) →
          exec (.assetDrop t id) s = .next ((s.at t).setAsset a Asset.empty)) ∧
        (s.assets.recs[a].state = .ready → 0 < s.assets.recs[a].pins →
          exec (.assetDrop t id) s = .next ((s.at t).setAsset a { s.assets.recs[a] with state := .doomed }))) ∧
      ∀ (t : Time) (a : AssetId) (s : State), s.quiet →
        exec (.assetLoadTimerExpiry t a) s =
          .next (if s.assets.recs[a].state = .loading ∧ due s.assets.recs[a].timer t then
            failedEvent a 2 s.assets.recs[a].received ((s.at t).setAsset a Asset.empty) else s.at t)) ∧
  (∀ (a : AssetId) (s : State),
    (s.assets.recs[a].state = .ready → takePin a s = s.setAsset a { s.assets.recs[a] with pins := s.assets.recs[a].pins + 1 }) ∧
    (s.assets.recs[a].state ≠ .ready → takePin a s = s) ∧
    (s.assets.recs[a].state = .doomed → s.assets.recs[a].pins ≤ 1 → releasePin a s = s.setAsset a Asset.empty) ∧
    (¬ (s.assets.recs[a].state = .doomed ∧ s.assets.recs[a].pins ≤ 1) →
      releasePin a s = s.setAsset a { s.assets.recs[a] with pins := s.assets.recs[a].pins - 1 })) ∧
  (∀ (m : Dram) (a x : Nat) (bs : List Byte), m.wf = true →
    (m.write a bs).read x = if a ≤ x ∧ x < a + bs.length then bs.getD (x - a) 0 else m.read x) ∧
  (∀ (m : Dram) (x : Nat), (∀ c ∈ m, c.1 ≠ x) → m.read x = 0) ∧
  ∀ (pins : Pins) (x : Nat), (State.released pins).assets.dram.read x = 0

/-- The law of R72 and the canonical form of the DRAM: no step makes two assets share a block or an asset reach into the ring,
and an asset that is not EMPTY occupies exactly the blocks its size requires. -/
def Obligations.AssetLawKept : Prop :=
  (∀ s s' : State, AssetLaw s → step s = .next s' → AssetLaw s') ∧
    ∀ s s' : State, DramLaw s → step s = .next s' → DramLaw s'

/-! ### Replay -/

/-- RECORD_START and RECORD_STOP (R85, R86); and each input frame start of the recorder's source (R83, R84, R87 to R90): a WAIT
recorder, one that the frame itself sends to WAIT, and one that meets a frame that is not good miss it; a good one is written with
its record number, capture time, stored picture, clock snapshot and gap count when a slot is empty or the oldest present frame is
not protected; otherwise it is missed and the recorder is HELD. A frame written over takes the marks that begin at it to STALE.
The picture a slot stores, at half size above 2,097,152 pixels, with each pixel the average of those of its block that lie inside,
the snapshot of the clock channels, the oldest present frame, and the frame of a record number (R83, R84). RECORDER_GAP,
RECORDER_HELD and MARK_STALE are stated where the frame raises no other report. That RECORD_START tests RANGE, EXHAUSTED and
NO_SPACE in this order is the model's choice (notes/assumptions/35.md). -/
def Obligations.Recorder : Prop :=
  (∀ (p : Picture),
    (p.width * p.height ≤ 2097152 → storedPicture p = (p, false)) ∧
    (2097152 < p.width * p.height →
      let q := (storedPicture p).1
      (storedPicture p).2 = true ∧ q.width = (p.width + 1) / 2 ∧ q.height = (p.height + 1) / 2 ∧
      ∀ x y, x < (p.width + 1) / 2 → y < (p.height + 1) / 2 →
        let block := [(2 * x, 2 * y), (2 * x + 1, 2 * y), (2 * x, 2 * y + 1), (2 * x + 1, 2 * y + 1)].filter
          fun c => decide (c.1 < p.width ∧ c.2 < p.height)
        let mean := fun channel : Rgb → Byte =>
          ((block.map fun c => (channel (p.pixels.getD (c.2 * p.width + c.1) ⟨0, 0, 0⟩)).toNat).sum + block.length / 2) /
            block.length
        q.pixels.getD (y * q.width + x) ⟨0, 0, 0⟩ =
          ⟨BitVec.ofNat 8 (mean (·.r)), BitVec.ofNat 8 (mean (·.g)), BitVec.ofNat 8 (mean (·.b))⟩)) ∧
  (∀ (s : State) (c : Fin 4), s.clockSnapshot[c] =
    { value := s.clocks[c].value, state := s.clocks[c].state, direction := (s.clockCfg c).direction,
      stale := s.clocks[c].stale }) ∧
  (∀ (r : Ring) (k : Nat),
    r.oldest = (if r.present = 0 then none else r.newest.map fun n => n + 1 - r.present) ∧
    (r.frame k = none ↔ ∀ f, some f ∈ r.slots → f.number ≠ k) ∧
    ∀ f, r.frame k = some f → some f ∈ r.slots ∧ f.number = k) ∧
  ((∀ (t : Time) (source : Byte) (s : State), s.takes .recordStart →
      (1 < source.toNat → exec (.recordStart t source) s = .next (s.refusing t .recordStart .range)) ∧
      (source.toNat ≤ 1 → s.replay.recorder.exhausted = true →
        exec (.recordStart t source) s = .next (s.refusing t .recordStart .exhausted)) ∧
      (source.toNat ≤ 1 → s.replay.recorder.exhausted = false → s.ringSlots = 0 →
        exec (.recordStart t source) s = .next (s.refusing t .recordStart .noSpace)) ∧
      ∀ i : InputId, i = (if source = 0 then .pgm else .iso) → source.toNat ≤ 1 → s.replay.recorder.exhausted = false →
        s.ringSlots ≠ 0 → exec (.recordStart t source) s = .next
          { s with count := t, replay.recorder := { s.replay.recorder with
              source := i,
              state := if (s.receiver i).feed ≠ .live then .wait
                else if s.replay.recorder.state = .held then .held else .recording,
              gap := if s.replay.recorder.state = .idle then 0 else s.replay.recorder.gap } }) ∧
      ∀ (t : Time) (s : State), s.takes .recordStop →
        (s.replay.recorder.state = .idle → exec (.recordStop t) s = .next (s.at t)) ∧
        (s.replay.recorder.state ≠ .idle → exec (.recordStop t) s = .next
          { s with count := t, replay.recorder := { s.replay.recorder with state := .idle, gap := 0, snapshot := none } })) ∧
  ∀ (t : Time) (i : InputId) (f : InputFrame) (s : State), s.quiet → s.replay.recorder.source = i →
    (s.receiver i).lock ≠ .absent → ∃ u, exec (.inputFrameStart t i f) s = .next u ∧
      let r := s.replay.recorder
      let ring := s.replay.ring
      let good := ∃ rate, classify (s.receiver i) t f = .good rate
      let before := if r.state ≠ .idle ∧ (u.receiver i).feed ≠ (s.receiver i).feed then .wait else r.state
      let missed := fun st => { r with state := st, gap := min 65535 (r.gap + 1), snapshot := none }
      let free := ring.present < ring.slots.length ∨ ∀ k, ring.oldest = some k → s.replay.guards k = false
      let alone := s.unarmed ∧ (u.receiver i).isLocked = (s.receiver i).isLocked
      (r.state = .idle → u.replay.recorder = { r with snapshot := none }) ∧
      (r.state = .idle ∨ before = .wait ∨ ¬ good → u.replay.ring = ring ∧ u.replay.marks = s.replay.marks ∧
        (alone → u.control = s.control)) ∧
      (r.state ≠ .idle → before = .wait ∨ ¬ good → u.replay.recorder = missed before) ∧
      (before = .recording ∨ before = .held → good →
        (ring.slots.length ≠ 0 → free →
          let n := r.lastNumber + 1
          let stored := storedPicture f.picture
          let frame : RingFrame :=
            { number := n, capture := t, source := i, picture := stored.1, reduced := stored.2,
              snapshot := s.clockSnapshot, gap := r.gap }
          let replaced := fun c : Clip => ring.present = ring.slots.length ∧ ring.oldest = some c.inPoint
          u.replay.ring =
            { slots := ring.slots.set ring.writePos (some frame), writePos := (ring.writePos + 1) % ring.slots.length,
              present := min ring.slots.length (ring.present + 1), newest := some n } ∧
          u.replay.recorder = { r with
            state := if n = 4294967295 then .idle else .recording, gap := 0, snapshot := none, lastNumber := n,
            exhausted := r.exhausted || decide (n = 4294967295) } ∧
          (∀ (m : Fin 16) (c : Clip), s.replay.marks[m] = .valid c → replaced c → u.replay.marks[m] = .stale c) ∧
          (∀ m : Fin 16, (∀ c, s.replay.marks[m] = .valid c → ¬ replaced c) → u.replay.marks[m] = s.replay.marks[m]) ∧
          (alone →
            ((∀ (m : Fin 16) (c : Clip), s.replay.marks[m] = .valid c → ¬ replaced c) →
              u.control = if r.gap = 0 then s.control
                else (raise .event 7 (if i = .pgm then 0 else 1) (be 4 n ++ be 2 r.gap) s).control) ∧
            ∀ (m : Fin 16) (c : Clip), s.replay.marks[m] = .valid c → replaced c →
              (∀ (k : Fin 16) (d : Clip), k ≠ m → s.replay.marks[k] = .valid d → ¬ replaced d) → r.gap = 0 →
              u.control = (raise .event 5 m.val (be 1 m.val ++ be 2 c.label ++ be 4 c.inPoint) s).control)) ∧
        (∀ k, ring.slots.length ≤ ring.present → ring.oldest = some k → s.replay.guards k = true →
          u.replay.recorder = missed .held ∧ u.replay.ring = ring ∧ u.replay.marks = s.replay.marks ∧
          (alone → u.control = if before = .held then s.control
            else (raise .event 6 0 (be 4 k ++ be 4 s.replay.player.position) s).control)))

/-- Which mark is in use (R91) and which frames are present (R83). MARK_IN and MARK_OUT: their refusals in order, and the points
they set (R91 to R93). MARK_OUT's order is R93's; that MARK_IN tests RANGE, BUSY and OUT_OF_RING in this order is the model's
choice (notes/assumptions/35.md). -/
def Obligations.MarkPoints : Prop :=
  (∀ (r : Replay) (m : Fin 16), r.inUse m = true ↔ r.player.state ≠ .idle ∧ r.player.mark = m) ∧
  (∀ (r : Ring) (k : Nat),
    r.has k = true ↔ r.present ≠ 0 ∧ ∃ n, r.newest = some n ∧ n + 1 - r.present ≤ k ∧ k ≤ n) ∧
  (∀ (t : Time) (mark point : Byte) (number : BitVec 32) (label : BitVec 16) (s : State), s.takes .markIn →
    (15 < mark.toNat ∨ 1 < point.toNat →
      exec (.markIn t mark point number label) s = .next (s.refusing t .markIn .range)) ∧
    ∀ m : Fin 16, mark.toNat = m.val → point.toNat ≤ 1 →
      (s.replay.inUse m = true → exec (.markIn t mark point number label) s = .next (s.refusing t .markIn .busy)) ∧
      (s.replay.inUse m = false →
        ((∀ k, (if point = 0 then some number.toNat else s.replay.ring.newest) = some k → s.replay.ring.has k = false) →
          exec (.markIn t mark point number label) s = .next (s.refusing t .markIn .outOfRing)) ∧
        ∀ k, (if point = 0 then some number.toNat else s.replay.ring.newest) = some k → s.replay.ring.has k = true →
          exec (.markIn t mark point number label) s = .next ((s.at t).setMark m (.valid ⟨k, none, label.toNat⟩)))) ∧
    ∀ (t : Time) (mark point : Byte) (number : BitVec 32) (s : State), s.takes .markOut →
      (15 < mark.toNat ∨ 2 < point.toNat → exec (.markOut t mark point number) s = .next (s.refusing t .markOut .range)) ∧
      ∀ m : Fin 16, mark.toNat = m.val → point.toNat ≤ 2 →
        (s.replay.inUse m = true → exec (.markOut t mark point number) s = .next (s.refusing t .markOut .busy)) ∧
        (s.replay.inUse m = false → (∀ c, s.replay.marks[m] ≠ .valid c) →
          exec (.markOut t mark point number) s = .next (s.refusing t .markOut .notValid)) ∧
        ∀ c, s.replay.inUse m = false → s.replay.marks[m] = .valid c →
          (point = 2 → exec (.markOut t mark point number) s = .next ((s.at t).setMark m (.valid { c with outPoint := none }))) ∧
          (point ≠ 2 →
            (∀ k, (if point = 0 then some number.toNat else s.replay.ring.newest) = some k → s.replay.ring.has k = false) →
            exec (.markOut t mark point number) s = .next (s.refusing t .markOut .outOfRing)) ∧
          ∀ k, point ≠ 2 → (if point = 0 then some number.toNat else s.replay.ring.newest) = some k →
            s.replay.ring.has k = true →
            exec (.markOut t mark point number) s = .next (if k < c.inPoint then s.refusing t .markOut .order
              else (s.at t).setMark m (.valid { c with outPoint := some k }))

/-- R94, whole: MARK_CLEAR, that none of the three commands changes a mark in use, and that PLAYER_STOP ends the use. -/
def Obligations.MarkClear : Prop :=
  (∀ (t : Time) (p : List Byte), (decodePayload t .markClear p).isSome = true ↔ p.length = 1) ∧
    (∀ (t : Time) (mark : Byte) (s : State), s.takes .markClear →
      (15 < mark.toNat → exec (.markClear t mark) s = .next (s.refusing t .markClear .range)) ∧
      ∀ m : Fin 16, mark.toNat = m.val →
        (s.replay.inUse m = true → exec (.markClear t mark) s = .next (s.refusing t .markClear .busy)) ∧
        (s.replay.inUse m = false → exec (.markClear t mark) s = .next ((s.at t).setMark m .empty))) ∧
    (∀ (t : Time) (m : Fin 16) (mark point : Byte) (number : BitVec 32) (label : BitVec 16) (s : State),
      s.quiet → s.replay.inUse m = true →
      (∃ u, exec (.markIn t mark point number label) s = .next u ∧ u.replay.marks[m] = s.replay.marks[m]) ∧
      (∃ u, exec (.markOut t mark point number) s = .next u ∧ u.replay.marks[m] = s.replay.marks[m]) ∧
      ∃ u, exec (.markClear t mark) s = .next u ∧ u.replay.marks[m] = s.replay.marks[m]) ∧
    ∀ (t : Time) (s : State), s.takes .playerStop →
      ∃ u, exec (.playerStop t) s = .next u ∧ ∀ m : Fin 16, u.replay.inUse m = false

/-- The law of R95 with the ring's figures (R83): every step keeps the in-point frame of every VALID mark in the ring. -/
def Obligations.MarkLawKept : Prop := ∀ s s' : State, MarkLaw s → step s = .next s' → MarkLaw s'

/-- The law of R88: no command or event other than an output frame start, at which a MEMORY commit may empty the ring once the
player is IDLE (R67), and device reset takes a frame of the player's protected span out of the ring. The span: while the player is
not IDLE, from its position to its end frame, the out-point of its clip, or for OPEN the newest record number, and nothing while it
is IDLE (R104). -/
def Obligations.ProtectedSpanKept : Prop :=
  (∀ (s : State) (k : Nat),
    let p := s.replay.player
    (p.state = .idle → s.replay.guards k = false) ∧
    ∀ c : Clip, p.state ≠ .idle → s.replay.marks[p.mark] = .valid c ∨ s.replay.marks[p.mark] = .stale c →
      (∀ out, c.outPoint = some out → (s.replay.guards k = true ↔ p.position ≤ k ∧ k ≤ out)) ∧
      (∀ newest, c.outPoint = none → s.replay.ring.newest = some newest →
        (s.replay.guards k = true ↔ p.position ≤ k ∧ k ≤ newest))) ∧
  ∀ (c : Instr) (s s' : State), MarkLaw s → (∀ t o, c ≠ .outputFrameStart t o) → (∀ p, c ≠ .deviceReset p) →
    exec c s = .next s' → ∀ k, s.replay.guards k = true → s.replay.ring.has k = true → s'.replay.ring.has k = true

/-- CUE and PLAY: their refusals, and the clip they set up; PAUSE, CONTINUE, STEP and PLAYER_STOP. During takeover each acts on
the remembered state, which is the state that moves while the player is SUSPENDED, and STEP stays between the in-point, or a later
oldest present frame, and the end frame (R97 to R100, R102, R105). That PLAY tests RANGE before NOT_VALID, and STEP before NO_CLIP
and NOT_PAUSED, is the model's choice (notes/assumptions/35.md). -/
def Obligations.PlayerCommands : Prop :=
  (∀ (r : Replay) (given : PlayerState),
    let p := r.player
    (p.state ≠ .suspended → p.motion = p.state ∧ p.setMotion given = { p with state := given }) ∧
    (p.state = .suspended → p.setMotion given = { p with remembered := some given } ∧
      ∀ st, p.remembered = some st → p.motion = st) ∧
    ∀ c : Clip, r.marks[p.mark] = .valid c ∨ r.marks[p.mark] = .stale c →
      r.stepLow = max c.inPoint (r.ring.oldest.getD 0) ∧
      (∀ out, c.outPoint = some out → r.endFrame = out) ∧
      ∀ n, c.outPoint = none → r.ring.newest = some n → r.endFrame = n) ∧
  ((∀ (t : Time) (mark : Byte) (s : State), s.takes .cue →
      (15 < mark.toNat → exec (.cue t mark) s = .next (s.refusing t .cue .range)) ∧
      ∀ m : Fin 16, mark.toNat = m.val →
        ((∀ c, s.replay.marks[m] ≠ .valid c) → exec (.cue t mark) s = .next (s.refusing t .cue .notValid)) ∧
        ∀ c, s.replay.marks[m] = .valid c → exec (.cue t mark) s = .next { s with count := t, replay.player :=
          { s.replay.player with
              mark := m, position := c.inPoint, phase := 0, reposition := true,
              state := if s.msgs.takeover then .suspended else .cued,
              remembered := if s.msgs.takeover then some .cued else none } }) ∧
      ∀ (t : Time) (mark n d act : Byte) (s : State), s.takes .play →
        (15 < mark.toNat ∨ 2 < act.toNat → exec (.play t mark n d act) s = .next (s.refusing t .play .range)) ∧
        ∀ (m : Fin 16) (e : EndAction), mark.toNat = m.val → act = (match e with | .hold => 0 | .stop => 1 | .loop => 2) →
          ((∀ c, s.replay.marks[m] ≠ .valid c) → exec (.play t mark n d act) s = .next (s.refusing t .play .notValid)) ∧
          ∀ c, s.replay.marks[m] = .valid c → exec (.play t mark n d act) s = .next { s with count := t, replay.player :=
            { s.replay.player with
                mark := m, position := c.inPoint, phase := 0, reposition := true,
                rateN := max 1 (min 4 n.toNat), rateD := max 1 (min 8 d.toNat), endAction := e,
                state := if s.msgs.takeover then .suspended else .playing,
                remembered := if s.msgs.takeover then some .playing else none } }) ∧
  (∀ (t : Time) (s : State), s.quiet → s.health ≠ .isolated →
      let p := s.replay.player
      let moved := fun st : PlayerState => ({ s with count := t, replay.player := p.setMotion st } : State)
      (p.motion = .idle ∨ p.motion = .suspended → exec (.pause t) s = .next (s.refusing t .pause .noClip) ∧
        exec (.continuePlay t) s = .next (s.refusing t .continuePlay .noClip)) ∧
      (p.motion = .playing → exec (.pause t) s = .next (moved .paused) ∧ exec (.continuePlay t) s = .next (s.at t)) ∧
      (p.motion = .cued → exec (.pause t) s = .next (moved .paused) ∧ exec (.continuePlay t) s = .next (moved .playing)) ∧
      (p.motion = .paused → exec (.pause t) s = .next (s.at t) ∧ exec (.continuePlay t) s = .next (moved .playing)) ∧
      (p.state = .idle → exec (.playerStop t) s = .next (s.at t)) ∧
      (p.state ≠ .idle → exec (.playerStop t) s = .next { s with count := t, replay.player :=
        { p with state := .idle, remembered := none, reposition := false } }) ∧
      ∀ amount : BitVec 16,
        (amount.toInt = 0 ∨ amount.toInt < -255 ∨ 255 < amount.toInt →
          exec (.step t amount) s = .next (s.refusing t .step .range)) ∧
        (amount.toInt ≠ 0 → -255 ≤ amount.toInt → amount.toInt ≤ 255 →
          (p.motion = .playing → exec (.step t amount) s = .next (s.refusing t .step .notPaused)) ∧
          (p.motion = .idle ∨ p.motion = .suspended → exec (.step t amount) s = .next (s.refusing t .step .noClip)) ∧
          (p.motion = .paused ∨ p.motion = .cued → exec (.step t amount) s = .next { s with count := t, replay.player :=
            { p.setMotion .paused with
                phase := 0, reposition := true,
                position := (max (s.replay.stepLow : Int)
                  (min (s.replay.endFrame : Int) ((p.position : Int) + amount.toInt))).toNat } })))

/-- The player at an output frame start, given the takeover flag of the frame that begins (R96, R101 to R103, R105): under
takeover a moving player becomes SUSPENDED and keeps its state in mind; when takeover ends it takes that state up again without
moving; a PLAYING one whose last frame state was PLAYING and that no command has repositioned advances by its rate, to its end
frame at most; there its clip ends with HOLD, STOP or LOOP, a LOOP on a mark that is not VALID as HOLD, with PLAYER_ENDED's event
and trigger; and every other player presents the frame it stands at. -/
def Obligations.PlayerFrame : Prop :=
  (∀ c : Clip, Mark.empty.clip = none ∧ (Mark.valid c).clip = some c ∧ (Mark.stale c).clip = some c ∧
    Mark.empty.validClip = none ∧ (Mark.valid c).validClip = some c ∧ (Mark.stale c).validClip = none) ∧
  ∀ (t : Time) (s : State),
    let p := s.replay.player
    let shows := fun (q : Player) (v : State) => ({ v with replay.player := { q with
      frameState := q.state, reposition := false,
      presented := if q.state = .idle then none else some ⟨q.position, q.mark⟩ } } : State)
    let steady := p.frameState ≠ .playing ∨ p.reposition = true
    (p.state = .idle → playerFrame t s = shows p s) ∧
    (s.msgs.takeover = true →
      (p.state = .suspended → playerFrame t s = shows p s) ∧
      (p.state ≠ .idle → p.state ≠ .suspended →
        playerFrame t s = shows { p with state := .suspended, remembered := some p.state } s)) ∧
    (s.msgs.takeover = false →
      (∀ st, p.state = .suspended → p.remembered = some st → st ≠ .playing ∨ steady →
        playerFrame t s = shows { p with state := st, remembered := none } s) ∧
      (p.state = .cued ∨ p.state = .paused ∨ (p.state = .playing ∧ steady) → playerFrame t s = shows p s) ∧
      (p.state = .playing → p.frameState = .playing → p.reposition = false → 1 ≤ p.rateD →
        let moves := (p.phase + p.rateN) / p.rateD
        let room := s.replay.endFrame - p.position
        (moves ≤ room →
          playerFrame t s = shows { p with phase := (p.phase + p.rateN) % p.rateD, position := p.position + moves } s) ∧
        (room < moves →
          let mark := s.replay.marks[p.mark]
          let clip := mark.clip.getD ⟨0, none, 0⟩
          let act := if p.endAction = .loop ∧ mark.validClip = none then .hold else p.endAction
          let code := match act with | .hold => 0 | .stop => 1 | .loop => 2
          let q := match act with
            | .hold => { p with state := .paused, position := p.position + room, phase := 0 }
            | .stop => { p with state := .idle, position := p.position + room }
            | .loop => { p with position := clip.inPoint, phase := 0 }
          playerFrame t s = shows q (raiseTrigger t .playerEnded (raise .event 8 p.mark.val
            (be 1 p.mark.val ++ be 2 clip.label ++ be 1 code ++
              be 1 (if clip.outPoint = none then 1 else 0) ++ be 4 (p.position + room)) s)))))

/-- The law of R105: every step keeps the player SUSPENDED exactly in the frames under takeover in which it is not IDLE, its state
of a frame under takeover IDLE or SUSPENDED, and so that of a SUSPENDED player never PLAYING (R101). -/
def Obligations.PlayerLawKept : Prop := ∀ s s' : State, PlayerLaw s → step s = .next s' → PlayerLaw s'

/-! ### Clocks -/

/-- CLOCK_START and CLOCK_STOP: LIMIT on an EXPIRED channel, the effective time, the value brought up to it without correction,
and the expiry of a stop that comes after the end, with its report, its trigger and its horn request, the last two with t_x and te
as data (R111 to R113, R118 to R120). CLOCK_SET, CLOCK_ADJUST, CLOCK_PRESET and CLOCK_REPORT (R108, R114, R118, R121 to R123).
That CLOCK_REPORT tests RANGE before MODE is the model's choice (notes/assumptions/35.md); so is that the report of an expiring
stop, whose 17 bytes R113 fixes, carries t_x and has no place for te (R120, notes/assumptions/36.md). That a start sets the last
report time in CONSOLE mode alone is the model's deduction (R117, R119, notes/assumptions/45.md). -/
def Obligations.ClockCommands : Prop :=
  ((∀ (t : Time) (channel : Byte) (s : State), s.takes .clockStart →
      (3 < channel.toNat → exec (.clockStart t channel) s = .next (s.refusing t .clockStart .range)) ∧
      ∀ c : Fin 4, channel.toNat = c.val →
        (s.clocks[c].state = .running → exec (.clockStart t channel) s = .next (s.at t)) ∧
        (s.clocks[c].state = .expired → exec (.clockStart t channel) s = .next (s.refusing t .clockStart .limit)) ∧
        (s.clocks[c].state = .stopped → exec (.clockStart t channel) s = .next ((s.at t).setClock c
          { s.clocks[c] with
              state := .running, ref := later t s.clocks[c].ref,
              lastReport := if (s.clockCfg c).console then some (later t s.clocks[c].ref) else s.clocks[c].lastReport }))) ∧
      ∀ (t : Time) (channel : Byte) (s : State), s.takes .clockStop →
        (3 < channel.toNat → exec (.clockStop t channel) s = .next (s.refusing t .clockStop .range)) ∧
        ∀ c : Fin 4, channel.toNat = c.val →
          let k := s.clocks[c]
          let cfg := s.clockCfg c
          let te := later t k.ref
          (k.state ≠ .running → exec (.clockStop t channel) s = .next (s.at t)) ∧
          (k.state = .running → elapsed k.ref te < cfg.distanceFrom k.value →
            exec (.clockStop t channel) s = .next ((s.at t).setClock c { k with
              state := .stopped, correction := 0, ref := te,
              value := if cfg.direction = .down then k.value - elapsed k.ref te else k.value + elapsed k.ref te })) ∧
          (k.state = .running → cfg.distanceFrom k.value ≤ elapsed k.ref te →
            let tx := after k.ref (cfg.distanceFrom k.value)
            let u := (s.at t).setClock c { k with state := .expired, correction := 0, ref := te, value := cfg.stopAt }
            let v := raiseTrigger t (.clockExpired c tx (some te)) (raise .clock 0 c.val
              (be 1 0 ++ be 6 tx.toNat ++ be 5 cfg.stopAt ++ be 5 k.value) u)
            exec (.clockStop t channel) s =
              .next (settle (if cfg.hornOn then hornRequest t ⟨tx, after tx (cfg.hornMs * 27000), some te⟩ v else v)))) ∧
  (∀ (t : Time) (channel : Byte) (ms : BitVec 32) (running : Byte) (s : State), s.quiet → s.health ≠ .isolated →
      (3 < channel.toNat →
        exec (.clockSet t channel ms) s = .next (s.refusing t .clockSet .range) ∧
        exec (.clockAdjust t channel ms) s = .next (s.refusing t .clockAdjust .range) ∧
        exec (.clockPreset t channel) s = .next (s.refusing t .clockPreset .range) ∧
        exec (.clockReport t channel ms running) s = .next (s.refusing t .clockReport .range)) ∧
      ∀ c : Fin 4, channel.toNat = c.val →
        let k := s.clocks[c]
        let cfg := s.clockCfg c
        let te := later t k.ref
        exec (.clockSet t channel ms) s = .next ((s.at t).setClock c { k with
          value := min cfg.top (ms.toNat * 27000), correction := 0, ref := te,
          state := if k.state = .expired then .stopped else k.state }) ∧
        (let v := (max 0 (min (cfg.top : Int) ((k.value : Int) + ms.toInt * 27000))).toNat
         exec (.clockAdjust t channel ms) s = .next ((s.at t).setClock c { k with
          value := v,
          ref := if k.state = .running ∧ v ≠ cfg.stopAt then k.ref else te,
          state := if k.state = .expired ∧ v ≠ cfg.stopAt then .stopped else k.state })) ∧
        exec (.clockPreset t channel) s = .next ((s.at t).setClock c { k with
          value := if cfg.direction = .down then cfg.period else 0, state := .stopped, correction := 0, ref := te }) ∧
        (6000000 < ms.toNat ∨ 1 < running.toNat →
          exec (.clockReport t channel ms running) s = .next (s.refusing t .clockReport .range)) ∧
        (ms.toNat ≤ 6000000 → running.toNat ≤ 1 →
          (cfg.console = false →
            exec (.clockReport t channel ms running) s = .next (s.refusing t .clockReport .mode)) ∧
          (cfg.console = true → exec (.clockReport t channel ms running) s =
            .next ((s.at t).setClock c { k with console := some ⟨ms.toNat, decide (running = 1), t⟩ }))))

/-- The stages of a clock channel at a frame start: its advance and expiry, its console report and its stale check, in this order,
before the commit (R109). Stages 3, 4 and 6: the console value now and what reconciling with a pending report makes
of the channel, with its SNAP report (R115, R116); the stale flag and its report (R117); and the frame value with the display
tenths and the display notice to the cue unit (R125, R126). -/
def Obligations.ConsoleAndDisplay : Prop :=
  ∀ (t : Time) (s : State) (c : Fin 4),
    let k := s.clocks[c]
    let cfg := s.clockCfg c
    clockStages t s c = clockStale t (clockConsole t (clockAdvance t s c) c) c ∧
    (cfg.console = false ∨ k.console = none → clockConsole t s c = s) ∧
    (∀ p, cfg.console = true → k.console = some p →
      let age : Int := elapsed p.arrival t + cfg.latency
      let now : Int := p.ms * 27000 + (if p.running = false then 0 else if cfg.direction = .down then -age else age)
      let vn := (max 0 (min (cfg.top : Int) now)).toNat
      let e := ((vn : Int) - k.value).natAbs
      let told : Clock := { k with console := none, lastReport := some t, stale := false }
      let snap := fun k' : Clock => raise .clock 0 c.val (be 1 1 ++ be 6 t.toNat ++ be 5 vn ++ be 5 k.value) (s.setClock c k')
      let restarted : Clock := { told with value := vn, state := .running, ref := t, correction := 0 }
      (k.state = .stopped → p.running = false → clockConsole t s c = s.setClock c { told with value := vn }) ∧
      (k.state = .stopped → p.running = true →
        clockConsole t s c = if cfg.deadband < e then snap restarted else s.setClock c restarted) ∧
      (k.state = .running → p.running = false →
        clockConsole t s c = s.setClock c { told with value := vn, state := .stopped, correction := 0 }) ∧
      (k.state = .running → p.running = true →
        (e ≤ cfg.deadband → clockConsole t s c = s.setClock c { told with correction := 0 }) ∧
        (cfg.deadband < e → e ≤ cfg.snap →
          clockConsole t s c = s.setClock c { told with correction := (vn : Int) - k.value }) ∧
        (cfg.deadband < e → cfg.snap < e → clockConsole t s c = snap { told with value := vn, correction := 0 })) ∧
      (k.state = .expired → vn = cfg.stopAt → clockConsole t s c = s.setClock c told) ∧
      (k.state = .expired → vn ≠ cfg.stopAt →
        clockConsole t s c =
          if p.running = true then snap restarted else s.setClock c { told with value := vn, state := .stopped })) ∧
    (let silent := cfg.console = true ∧ k.state = .running ∧ k.stale = false ∧ 0 < cfg.silenceMs ∧
        ∃ l, k.lastReport = some l ∧ cfg.silenceMs * 27000 ≤ elapsed l t
     (¬ silent → clockStale t s c = s) ∧
     (silent → ∀ l, k.lastReport = some l → clockStale t s c = raise .clock 0 c.val
        (be 1 2 ++ be 6 l.toNat ++ be 5 k.value ++ be 5 0) (s.setClock c { k with stale := true }))) ∧
    (let down := cfg.direction = .down
     let tenths := if down then (k.value + 2699999) / 2700000 else k.value / 2700000
     let seconds := if down then (k.value + 26999999) / 27000000 else k.value / 27000000
     let shown := if k.value = 0 then 0 else if tenths < cfg.tenths then tenths else 10 * seconds
     let u := s.setClock c { k with frame := ⟨k.value, k.state, k.stale⟩, frameTenths := shown }
     clockFrameValue t s c = if shown ≠ k.frameTenths ∨ k.state ≠ k.frame.state then
         raiseTrigger t (.clockDisplay c cfg.direction k.state k.frameTenths shown) u
       else u)

/-- A channel's limit, its end, the largest value it may hold and the value's way to its end (R107, R108). A channel's advance at
a frame start: a RUNNING channel over E elapsed ticks with pending correction C moves by E and the correction's step k, C held
within a sixteenth of E, and keeps C - k; where that takes it to or past its end, and only there, it expires at its end with its
correction cleared, an EXPIRED report with the expiry instant a + ⌈distance × E / M⌉, which lies within the frame, the
CLOCK_EXPIRED trigger, and the horn request if horn on expiry is set; a channel that is not RUNNING only takes the frame start as
its reference time (R110 to R113). And the law of R110: a RUNNING channel moves in its counting direction by at least fifteen
sixteenths of the elapsed ticks, or reaches its end and expires. -/
def Obligations.ClockAdvance : Prop :=
  (∀ (cfg : ClockCfg) (v : Nat),
    cfg.limit = (if cfg.period = 0 then 162000000000 else cfg.period) ∧
    cfg.stopAt = (if cfg.direction = .down then 0 else cfg.limit) ∧
    cfg.top = (if cfg.direction = .down then 162000000000 else cfg.limit) ∧
    cfg.distanceFrom v = if cfg.direction = .down then v else cfg.limit - v) ∧
  ∀ (t : Time) (s : State) (c : Fin 4), ClockLaw s →
    let k := s.clocks[c]
    let cfg := s.clockCfg c
    let e := elapsed k.ref t
    let slew := max (-((e / 16 : Nat) : Int)) (min ((e / 16 : Nat) : Int) k.correction)
    let v : Int := if cfg.direction = .down then (k.value : Int) - e + slew else (k.value : Int) + e + slew
    let ends := if cfg.direction = .down then v ≤ 0 else (cfg.limit : Int) ≤ v
    let movement := (if cfg.direction = .down then (e : Int) - slew else (e : Int) + slew).toNat
    let tx := if e = 0 then k.ref else after k.ref ((cfg.distanceFrom k.value * e + (movement - 1)) / movement)
    let u := (clockAdvance t s c).clocks[c]
    u.ref = t ∧ (∀ d : Fin 4, d ≠ c → (clockAdvance t s c).clocks[d] = s.clocks[d]) ∧
      (k.state ≠ .running → clockAdvance t s c = s.setClock c { k with ref := t }) ∧
      (k.state = .running → ¬ ends →
        clockAdvance t s c = s.setClock c { k with value := v.toNat, correction := k.correction - slew, ref := t }) ∧
      (k.state = .running → ends →
        let x := raiseTrigger t (.clockExpired c tx none) (raise .clock 0 c.val
          (be 1 0 ++ be 6 tx.toNat ++ be 5 cfg.stopAt ++ be 5 k.value)
          (s.setClock c { k with state := .expired, value := cfg.stopAt, correction := 0, ref := t }))
        clockAdvance t s c = (if cfg.hornOn then hornRequest t ⟨tx, after tx (cfg.hornMs * 27000), none⟩ x else x) ∧
        elapsed k.ref tx ≤ e) ∧
      (k.state = .running →
        (u.state = .running ∧ cfg.direction = .down ∧ u.value + (15 * e + 15) / 16 ≤ k.value ∧ 0 < u.value) ∨
        (u.state = .running ∧ cfg.direction = .up ∧ k.value + (15 * e + 15) / 16 ≤ u.value ∧ u.value < cfg.limit) ∨
        (u.state = .expired ∧ u.value = cfg.stopAt ∧ u.correction = 0))

/-- The law of R108: every step keeps every clock value between 0 and Vmax, in UP mode not above its limit, and an EXPIRED DOWN
channel at 0. -/
def Obligations.ClockLawKept : Prop := ∀ s s' : State, ClockLaw s → step s = .next s' → ClockLaw s'

/-! ### Score -/

/-- The largest value of each field (R130). SCORE_SET and SCORE_ADD: their refusals, the clamped value they store and report, and
the triggers a change sends (R130 to R133). That the CLAMPED report is queued before the cue unit takes the command's triggers is
the model's deduction (notes/assumptions/27.md). That both triggers of a change of PERIOD are raised before the cue unit takes the
first is the model's choice (notes/assumptions/44.md), and so is that SCORE_ADD tests BAD_FIELD before RANGE
(notes/assumptions/35.md). -/
def Obligations.ScoreCommands : Prop :=
  (List.finRange 16).map fieldTop = [999, 999, 99, 99, 99, 9, 9, 2, 9999, 9999, 9999, 9999, 9999, 9999, 9999, 9999] ∧
  let stored := fun (t : Time) (k : Kind) (f : Fin 16) (v : Int) (s : State) =>
    let x := (max 0 (min (fieldTop f : Int) v)).toNat
    let old := s.score.fields[f]
    let u : State := { s with
      count := t, score.fields := s.score.fields.set f x,
      cues.pendingTriggers := if x = old then [] else
        if f = 2 then [⟨t, .scoreChanged f old x⟩, ⟨t, .periodChanged old x⟩] else [⟨t, .scoreChanged f old x⟩] }
    settle (if (x : Int) = v then u else raise .refusal 0 k.code [10, BitVec.ofNat 8 k.code] u)
  ∀ (t : Time) (field : Byte) (value : BitVec 16) (s : State), s.quiet → s.health ≠ .isolated →
    (15 < field.toNat → exec (.scoreSet t field value) s = .next (s.refusing t .scoreSet .badField) ∧
      exec (.scoreAdd t field value) s = .next (s.refusing t .scoreAdd .badField)) ∧
    ∀ f : Fin 16, field.toNat = f.val →
      (f = 7 → exec (.scoreAdd t field value) s = .next (s.refusing t .scoreAdd .badField) ∧
        (value.toInt < 0 ∨ 2 < value.toInt →
          exec (.scoreSet t field value) s = .next (s.refusing t .scoreSet .range)) ∧
        (0 ≤ value.toInt → value.toInt ≤ 2 →
          exec (.scoreSet t field value) s = .next (stored t .scoreSet f value.toInt s))) ∧
      (f ≠ 7 → exec (.scoreSet t field value) s = .next (stored t .scoreSet f value.toInt s) ∧
        (value.toInt < -999 ∨ 999 < value.toInt →
          exec (.scoreAdd t field value) s = .next (s.refusing t .scoreAdd .range)) ∧
        (-999 ≤ value.toInt → value.toInt ≤ 999 →
          exec (.scoreAdd t field value) s = .next (stored t .scoreAdd f ((s.score.fields[f] : Int) + value.toInt) s)))

/-- Every step keeps every score field, every contract's remainder and figures, the settlement log's length, the counters of the
control channel, the relock count and the receivers' runs in their ranges (R2, R3, R11, R26, R40, R130, R146, R152, R164). -/
def Obligations.RangesKept : Prop :=
  (∀ s s' : State, ScoreLaw s → step s = .next s' → ScoreLaw s') ∧
    (∀ s s' : State, SponsorLaw s → step s = .next s' → SponsorLaw s') ∧
    ∀ s s' : State, CounterLaw s → step s = .next s' → CounterLaw s'

/-! ### Sponsors -/

/-- CONTRACT_PAUSE, CONTRACT_RESUME and PERIOD_CLOSE with its settlement records and SETTLEMENT_ADDED events (R162 to R164): which
contracts a close settles, in index order, and what their records hold. -/
def Obligations.ContractCommands : Prop :=
  (∀ s : State, closing s = ((List.finRange 64).filter fun i => decide (s.sponsor.accruals[i].state ≠ .vacant)) ∧
    ∀ i : Fin 64, settlementOf s i =
      { contract := i, met := s.sponsor.accruals[i].met, key := (s.contract i).key, period := s.sponsor.accruals[i].period,
        target := (s.contract i).target, accrued := s.sponsor.accruals[i].accrued, close := s.sponsor.closeNumber.toNat }) ∧
  (∀ (t : Time) (contract : Byte) (s : State), s.quiet → s.health ≠ .isolated →
    (63 < contract.toNat → exec (.contractPause t contract) s = .next (s.refusing t .contractPause .range) ∧
      exec (.contractResume t contract) s = .next (s.refusing t .contractResume .range)) ∧
    ∀ i : Fin 64, contract.toNat = i.val →
      (s.sponsor.accruals[i].state = .vacant →
        exec (.contractPause t contract) s = .next (s.refusing t .contractPause .vacant) ∧
        exec (.contractResume t contract) s = .next (s.refusing t .contractResume .vacant)) ∧
      (s.sponsor.accruals[i].state ≠ .vacant →
        exec (.contractPause t contract) s =
          .next ((s.at t).setAccrual i { s.sponsor.accruals[i] with state := .paused }) ∧
        exec (.contractResume t contract) s =
          .next ((s.at t).setAccrual i { s.sponsor.accruals[i] with state := .active }))) ∧
    ∀ (t : Time) (s : State), s.takes .periodClose →
      (128 - (closing s).length < s.sponsor.log.length →
        exec (.periodClose t) s = .next (s.refusing t .periodClose .full)) ∧
      (s.sponsor.log.length ≤ 128 - (closing s).length → ∃ u, exec (.periodClose t) s = .next u ∧
        u.sponsor.closeNumber = s.sponsor.closeNumber + 1 ∧
        u.sponsor.log = s.sponsor.log ++ (closing s).map (fun i =>
          { settlementOf s i with close := (s.sponsor.closeNumber + 1).toNat }) ∧
        (∀ i : Fin 64, u.sponsor.accruals[i] = if s.sponsor.accruals[i].state = .vacant then s.sponsor.accruals[i]
          else { s.sponsor.accruals[i] with
            accrued := 0, remainder := 0, wall := 0, met := false,
            period := (s.sponsor.accruals[i].period + 1) % 65536 }) ∧
        (let record := fun i => { settlementOf s i with close := (s.sponsor.closeNumber + 1).toNat }
         u.control = ((closing s).foldl (fun v i =>
           raise .event 10 i.val (be 1 i.val ++ be 4 (s.sponsor.closeNumber + 1).toNat ++ be 2 s.sponsor.accruals[i].period ++
             be 1 (if s.sponsor.accruals[i].met = true then 1 else 0) ++ be 6 s.sponsor.accruals[i].accrued)
             { v with sponsor.log := v.sponsor.log ++ [record i] }) s).control) ∧
        u.sponsor.lanes = s.sponsor.lanes ∧ u.timing = s.timing ∧ u.pgm = s.pgm ∧ u.iso = s.iso ∧ u.active = s.active ∧
        u.clocks = s.clocks ∧ u.score = s.score ∧
        u.msgs = s.msgs ∧ u.comp = s.comp ∧ u.replay = s.replay ∧ u.assets = s.assets ∧ u.cues = s.cues)

/-- R165, whole: SETTLE_REMOVE takes the oldest records from the settlement log, as many as there are at most, and touches
nothing else. -/
def Obligations.SettleRemove : Prop :=
  (∀ (t : Time) (p : List Byte), (decodePayload t .settleRemove p).isSome = true ↔ p.length = 1) ∧
    ∀ (t : Time) (n : Byte) (s : State), s.takes .settleRemove →
      exec (.settleRemove t n) s = .next { s with count := t, sponsor.log := s.sponsor.log.drop n.toNat }

/-- Dwells, forced ends, service and pins of the sponsor lanes at a frame start (R157 to R161): a lane ends its dwell when its
frames run out outside takeover, or, in any frame, when its contract has another key, is PAUSED, is capped and met, or has the
category of a lower-numbered lane that keeps its contract. A lane that does not end it keeps its contract, its creative and its
pin, with one frame less outside takeover. Those that end it give up their contracts together and are served in lane number
order, each by `laneChoice` on what the lanes before it have left; each gets its contract's key, creative and dwell, and a pin on
that creative alone, or shows FILL. A lane on FILL holds a pin on its fill asset, if on any. The assets are those on which each pin
so taken or released has been taken or released, one by one: for the lanes served with a contract in number order, the new pin
before the old one, then for the lanes on FILL whose pin changes, the old one before the new (R77, R79, R161). -/
def Obligations.SponsorLanes : Prop :=
  ∀ s : State, ∃ ended : Fin 8 → Bool,
    let u := sponsorStages s
    (∀ l : Fin 8, ended l = true ↔ s.dwellEnds l ∨ ∃ c, s.sponsor.lanes[l].contract = some c ∧
      ((s.contract c).key ≠ s.sponsor.lanes[l].key ∨ s.sponsor.accruals[c].state = .paused ∨
        ((s.contract c).capped = true ∧ s.sponsor.accruals[c].met = true) ∨
        ((s.contract c).category ≠ 0 ∧ ∃ (k : Fin 8) (d : Fin 64), k < l ∧ ended k = false ∧
          s.sponsor.lanes[k].contract = some d ∧ (s.contract d).category = (s.contract c).category))) ∧
    (∀ l : Fin 8, ended l = false →
      let left := if s.msgs.takeover = true then s.sponsor.lanes[l].framesLeft else s.sponsor.lanes[l].framesLeft - 1
      (∀ c, s.sponsor.lanes[l].contract = some c →
        u.sponsor.lanes[l] = { s.sponsor.lanes[l] with framesLeft := left }) ∧
      (s.sponsor.lanes[l].contract = none → ∃ pinned,
        u.sponsor.lanes[l] = { s.sponsor.lanes[l] with framesLeft := left, pinned := pinned })) ∧
    (∃ turn : Nat → State,
      (turn 0).sponsor.accruals = s.sponsor.accruals ∧ (turn 8).sponsor.accruals = u.sponsor.accruals ∧
      ∀ l : Fin 8,
        (∀ k : Fin 8, (turn l).sponsor.lanes[k].contract =
          if ended k = false then s.sponsor.lanes[k].contract
          else if k < l then u.sponsor.lanes[k].contract else none) ∧
        (turn l).active = s.active ∧ (turn l).clocks = s.clocks ∧
        (turn l).sponsor.lanes[l].cursor = s.sponsor.lanes[l].cursor ∧
        (∀ i : AssetId, (turn l).assets.recs[i].showable = s.assets.recs[i].showable) ∧
        (ended l = false → (turn (l + 1)).sponsor.accruals = (turn l).sponsor.accruals) ∧
        (ended l = true → laneChoice (turn l) l = none →
          (turn (l + 1)).sponsor.accruals = (turn l).sponsor.accruals ∧
          u.sponsor.lanes[l].contract = none ∧ u.sponsor.lanes[l].key = 0 ∧ u.sponsor.lanes[l].creative = none ∧
          u.sponsor.lanes[l].cursor = s.sponsor.lanes[l].cursor ∧
          u.sponsor.lanes[l].framesLeft = max 1 (s.laneCfg l).dwell) ∧
        ∀ (c : Fin 64) (cursor : Option Nat), ended l = true → laneChoice (turn l) l = some (c, cursor) → ∃ slot id,
          nextCreative (turn l) c = some (slot, id) ∧
          (turn (l + 1)).sponsor.accruals =
            (turn l).sponsor.accruals.set c { (turn l).sponsor.accruals[c] with creative := slot } ∧
          u.sponsor.lanes[l] =
            { contract := some c, key := (s.contract c).key, creative := some id, cursor := cursor, pinned := some id,
              framesLeft := if 0 < (s.contract c).dwell then (s.contract c).dwell else max 1 (s.laneCfg l).dwell }) ∧
    (∀ l : Fin 8, u.sponsor.lanes[l].contract = none →
      (u.sponsor.lanes[l].pinned = none ∨ u.sponsor.lanes[l].pinned = (s.laneCfg l).fill) ∧
      ∀ id, (s.laneCfg l).fill = some id → u.assets.recs[id].showable = true → u.sponsor.lanes[l].pinned = some id) ∧
    (let take := fun (p : Option AssetId) (v : State) => match p with | some id => takePin id v | none => v
     let release := fun (p : Option AssetId) (v : State) => match p with | some id => releasePin id v | none => v
     let served := (List.finRange 8).foldl (fun (v : State) (l : Fin 8) =>
       if ended l = true ∧ u.sponsor.lanes[l].contract ≠ none then
         release s.sponsor.lanes[l].pinned (take u.sponsor.lanes[l].pinned v) else v) s
     let filled := (List.finRange 8).foldl (fun (v : State) (l : Fin 8) =>
       if u.sponsor.lanes[l].contract = none ∧ u.sponsor.lanes[l].pinned ≠ s.sponsor.lanes[l].pinned then
         take u.sponsor.lanes[l].pinned (release s.sponsor.lanes[l].pinned v) else v) served
     u.assets.recs = filled.assets.recs ∧ u.assets.dram = s.assets.dram) ∧
    u.count = s.count ∧ u.pgm = s.pgm ∧ u.iso = s.iso ∧ u.sponsor.closeNumber = s.sponsor.closeNumber ∧
    u.active = s.active ∧ u.clocks = s.clocks ∧ u.msgs = s.msgs ∧ u.sponsor.log = s.sponsor.log ∧ u.control = s.control ∧
    u.timing = s.timing ∧ u.replay = s.replay ∧ u.score = s.score ∧ u.cues = s.cues ∧ u.comp = s.comp ∧
    ∀ i : Fin 64, ∃ creative, u.sponsor.accruals[i] = { s.sponsor.accruals[i] with creative := creative }

/-- The one arbiter over lane assignments: which contracts are eligible for a lane and which creative comes next (R154, R155); a
lane chooses the eligible contract of its list that is furthest behind its pace, the lowest index among equals, and keeps its
cursor; else the first eligible one after its cursor, in a cycle that ends with the cursor's own, and moves the cursor there;
else FILL (R159). A contract's pace: the progress of its period by its clock channel's frame value or by its wall elapsed, the
expected share of its target, the deficit against what it has accrued, and behind when that is above its slack (R156). That the
channel's period and direction are those of the active CLOCKS table also at its commit's own frame start is the model's deduction
(R128, R151, notes/assumptions/46.md). -/
def Obligations.SponsorSelection : Prop :=
  (∀ a : Asset, a.showable = true ↔ a.state = .ready ∧ (a.kind = .image ∨ a.kind = .sequence)) ∧
  (∀ (s : State) (c : Fin 64),
    let cfg := s.contract c
    let period := cfg.wallPeriodS * 27000000
    let wall := s.sponsor.accruals[c].wall
    ∃ p : Nat, p ≤ 65536 ∧ deficit s c = ((cfg.target * p / 65536 : Nat) : Int) - (s.sponsor.accruals[c].accrued : Int) ∧
      (behind s c = true ↔ (cfg.slack : Int) < deficit s c) ∧
      (cfg.wall = true → p = if period = 0 then 0 else 65536 * min wall period / period) ∧
      ∀ n : Fin 4, cfg.wall = false → cfg.channel = n.val →
        let d := (s.clockCfg n).period
        let v := s.clocks[n].frame.value
        (d = 0 → p = 0) ∧
        (d ≠ 0 → (s.clockCfg n).direction = .down → p = (max 0 ((65536 * ((d : Int) - v)) / d)).toNat) ∧
        (d ≠ 0 → (s.clockCfg n).direction = .up → p = min 65536 (65536 * v / d))) ∧
  ∀ (s : State) (l : Fin 8),
    let list := (s.laneCfg l).list
    let cursor := s.sponsor.lanes[l].cursor
    let place := fun j => ((match cursor with | none => 0 | some k => k + 1) + j) % list.length
    (∀ c : Fin 64,
      let cur := s.sponsor.accruals[c].creative
      let slot := fun k : Fin 4 => ∃ id, (s.contract c).creatives[k] = some id ∧ s.assets.recs[id].showable = true
      (eligible s l c = true ↔ s.sponsor.accruals[c].state = .active ∧ (∃ k : Fin 4, slot k) ∧
        ¬ ((s.contract c).capped = true ∧ s.sponsor.accruals[c].met = true) ∧
        ((s.contract c).category = 0 ∨ ∀ (k : Fin 8) (d : Fin 64), k ≠ l → s.sponsor.lanes[k].contract = some d →
          (s.contract d).category ≠ (s.contract c).category)) ∧
      (nextCreative s c = none ↔ ∀ k : Fin 4, ¬ slot k) ∧
      (∀ k id, nextCreative s c = some (k, id) → (s.contract c).creatives[k] = some id ∧ s.assets.recs[id].showable = true ∧
        ∀ j : Fin 4, slot j → (k - cur - 1).val ≤ (j - cur - 1).val)) ∧
    (∀ c ∈ list, eligible s l c = true → behind s c = true →
      (∀ d ∈ list, eligible s l d = true → behind s d = true →
        deficit s d < deficit s c ∨ (deficit s d = deficit s c ∧ c ≤ d)) →
      laneChoice s l = some (c, cursor)) ∧
    ((∀ c ∈ list, ¬ (eligible s l c = true ∧ behind s c = true)) →
      (∀ j c, j < list.length → list[place j]? = some c → eligible s l c = true →
        (∀ i d, i < j → list[place i]? = some d → eligible s l d = false) → laneChoice s l = some (c, some (place j))) ∧
      ((∀ c ∈ list, eligible s l c = false) → laneChoice s l = none))

/-- The law of R159: no two sponsor lanes show contracts with the same exclusion category other than 0. Every step keeps it, and
every output frame start brings it about, whatever the lanes showed before. -/
def Obligations.CategoryLawKept : Prop :=
  (∀ s s' : State, CategoryLaw s → step s = .next s' → CategoryLaw s') ∧
    ∀ (t : Time) (o : FrameOrder) (s s' : State), s.quiet → s.timing.schedule.head? = some t →
      exec (.outputFrameStart t o) s = .next s' → CategoryLaw s'

/-! ### Messages -/

/-- The classes by their codes, which are their ranks in the queue (R167, R168). POST: its refusals in order, the entry and the
pin it places, and, into a full queue, the eviction: the last entry in queue order that is not showing and that the class posted
may push out leaves with its pin and its MESSAGE_DONE event and trigger, or the POST is refused with FULL (R168, R169, R178). -/
def Obligations.Post : Prop :=
  (∀ k : MessageClass, k.rank = (match k with | .emergency => 0 | .lead => 1 | .standard => 2) ∧
    ∀ n, class? n = some k ↔ n = k.rank) ∧
  ∀ (t : Time) (tag : BitVec 16) (cls : Byte) (strip : BitVec 16) (lane mode : Byte) (pace : BitVec 16) (repeats : Byte)
    (lifetime : BitVec 16) (s : State), s.takes .post (decide (cls = 0)) →
    let c := Instr.post t tag cls strip lane mode pace repeats lifetime
    (2 < cls.toNat ∨ 511 < strip.toNat ∨ 1 < mode.toNat ∨ 15 < repeats.toNat ∨ (cls ≠ 0 ∧ 3 < lane.toNat) →
      exec c s = .next (s.refusing t .post .range)) ∧
    ∀ (k : MessageClass) (a : AssetId), class? cls.toNat = some k → strip.toNat = a.val → mode.toNat ≤ 1 →
      repeats.toNat ≤ 15 → (k = .emergency ∨ lane.toNat ≤ 3) →
      ((∃ e ∈ s.msgs.queue, e.tag = tag.toNat) → exec c s = .next (s.refusing t .post .duplicate)) ∧
      ((∀ e ∈ s.msgs.queue, e.tag ≠ tag.toNat) →
        let x := s.assets.recs[a]
        let usable := x.state = .ready ∧ (x.kind = .strip ∨ x.kind = .image)
        let new : Message :=
          { tag := tag.toNat, cls := k, strip := a, lane := lane.toNat, mode := if mode = 0 then .crawl else .hold,
            pace := if mode = 0 then max 1 (min 8191 pace.toNat) else max 1 pace.toNat, repeatsLeft := repeats.toNat,
            lifetime := lifetime.toNat, age := 0, passes := 0, leaving := none }
        (¬ usable → exec c s = .next (s.refusing t .post .notReady)) ∧
        (usable → s.msgs.queue.length < 32 → exec c s = .next { s with
          count := t, assets.recs := s.assets.recs.set a { x with pins := x.pins + 1 },
          msgs.queue := s.msgs.queue.filter (fun e => decide (e.cls.rank ≤ k.rank)) ++ [new] ++
            s.msgs.queue.filter fun e => decide (k.rank < e.cls.rank) }) ∧
        (usable → 32 ≤ s.msgs.queue.length →
          ((∀ e ∈ s.msgs.queue, k.pushes e → s.msgs.showingIn e.tag ≠ none) →
            exec c s = .next (s.refusing t .post .full)) ∧
          ∀ before old later, s.msgs.queue = before ++ old :: later → k.pushes old → s.msgs.showingIn old.tag = none →
            (∀ e ∈ later, k.pushes e → s.msgs.showingIn e.tag ≠ none) → ∃ v, exec c s = .next (settle v) ∧
            v.cues.pendingTriggers = [⟨t, .messageDone old.tag .evicted⟩] ∧ v.msgs.takeover = s.msgs.takeover ∧
            (let kept := s.msgs.queue.filter fun e => decide (e.tag ≠ old.tag)
             v.msgs.queue = kept.filter (fun e => decide (e.cls.rank ≤ k.rank)) ++ [new] ++
               kept.filter fun e => decide (k.rank < e.cls.rank)) ∧
            v.control = (raise .event 9 old.tag (be 2 old.tag ++ be 1 old.cls.rank ++ be 1 4 ++ be 1 255 ++
              be 1 old.passes) s).control ∧
            (let given := s.assets.recs[old.strip]
             let released := if given.state = .doomed ∧ given.pins ≤ 1 then Asset.empty
               else { given with pins := given.pins - 1 }
             v.assets.dram = s.assets.dram ∧
             (a = old.strip → v.assets.recs = s.assets.recs.set a { x with pins := x.pins - 1 + 1 }) ∧
             (a ≠ old.strip → v.assets.recs =
               (s.assets.recs.set old.strip released).set a { x with pins := x.pins + 1 })) ∧
            v.msgs.lanes = s.msgs.lanes ∧ v.msgs.emergency = s.msgs.emergency ∧ s.keeps v ∧ v.timing = s.timing ∧
            v.pgm = s.pgm ∧ v.iso = s.iso ∧ v.replay = s.replay))

/-- WITHDRAW and CLEAR_CLASS: an entry that is not showing leaves at once with its pin and its MESSAGE_DONE event and trigger, one
that shows gets its leaving flag (R170, R171, R178). The lanes stay as they are. That the entries of a class leave in queue order is
the model's choice (notes/assumptions/30.md), and so is that their triggers are all raised before the cue unit takes the first
(notes/assumptions/44.md). -/
def Obligations.WithdrawAndClear : Prop :=
  (∀ (t : Time) (tag : BitVec 16) (s : State), s.quiet →
    ((∀ e ∈ s.msgs.queue, e.tag ≠ tag.toNat) →
      exec (.withdraw t tag) s = .next (s.refusing t .withdraw .notFound)) ∧
    ∀ e, s.msgs.entry tag.toNat = some e →
      (s.msgs.showingIn tag.toNat ≠ none → exec (.withdraw t tag) s = .next { s with
        count := t, msgs.queue := s.msgs.queue.map fun x =>
          if x.tag = tag.toNat ∧ x.leaving = none then { x with leaving := some .withdrawn } else x }) ∧
      (s.msgs.showingIn tag.toNat = none → ∃ v, exec (.withdraw t tag) s = .next (settle v) ∧
        v.msgs = { s.msgs with queue := s.msgs.queue.filter fun x => decide (x.tag ≠ tag.toNat) } ∧
        v.assets = (releasePin e.strip s).assets ∧
        v.control = (raise .event 9 e.tag (be 2 e.tag ++ be 1 e.cls.rank ++ be 1 2 ++ be 1 255 ++ be 1 e.passes) s).control ∧
        v.cues.pendingTriggers = [⟨t, .messageDone tag.toNat .withdrawn⟩] ∧ s.keeps v ∧ v.timing = s.timing ∧
        v.pgm = s.pgm ∧ v.iso = s.iso ∧ v.replay = s.replay)) ∧
    ∀ (t : Time) (cls : Byte) (s : State), s.takes .clearClass → MessageLaw s →
      (2 < cls.toNat → exec (.clearClass t cls) s = .next (s.refusing t .clearClass .range)) ∧
      ∀ k, class? cls.toNat = some k → ∃ v, exec (.clearClass t cls) s = .next (settle v) ∧
        v.msgs = { s.msgs with
          queue := (s.msgs.queue.filter fun e => decide (e.cls ≠ k) || (s.msgs.showingIn e.tag).isSome).map fun e =>
            if e.cls = k ∧ e.leaving = none then { e with leaving := some .cleared } else e } ∧
        (let gone := s.msgs.queue.filter fun e => decide (e.cls = k) && (s.msgs.showingIn e.tag).isNone
         v.cues.pendingTriggers = gone.map (fun e => ⟨t, .messageDone e.tag .cleared⟩) ∧
         v.control = (gone.foldl (fun v e => raise .event 9 e.tag
           (be 2 e.tag ++ be 1 e.cls.rank ++ be 1 3 ++ be 1 255 ++ be 1 e.passes) v) s).control ∧
         v.assets = (gone.foldl (fun v e => releasePin e.strip v) s).assets) ∧
        s.keeps v ∧ v.timing = s.timing ∧ v.pgm = s.pgm ∧ v.iso = s.iso ∧ v.replay = s.replay

/-- The message unit at a frame start, stage by stage. Its stages, in order: departures, lifetimes, the emergency lane's pass, the
takeover flag, the passes of lanes 0 to 3 where the flag is clear, in number order by the model's choice
(notes/assumptions/30.md), and the selection of every lane (R173, R180). Which lane shows an entry, and the entry of a tag (R167).
Departures and lifetimes: in a queue that keeps its law, the entries with a leaving flag go, ages rise, and the entries whose age
reaches their lifetime go, each with its pin, a MESSAGE_DONE event that gives its reason, the lane that showed it and its passes,
and a MESSAGE_DONE trigger, in queue order by the model's choice (R172, R173, R178, notes/assumptions/30.md); a lane that showed
one of them is idle. A lane's pass: a CRAWL moves by its velocity and ends when the strip has left the lane, a HOLD counts its
dwell and ends at 0; at its end an entry on its last repeat is removed with COMPLETE, another goes to the back of its class, and
the lane is idle (R176 to R178). Message lanes stand still under takeover (R173, R180). Selection: an idle lane that may select
takes the first entry addressed to it that neither leaves nor shows, at the lane's present size (R174, R175). -/
def Obligations.MessagePasses : Prop :=
  (∀ (t : Time) (s : State), MessageLaw s →
    let stay := s.msgs.queue.filter fun e => decide (e.leaving = none)
    let older := stay.map fun e => { e with age := min 65535 (e.age + 1) }
    let due := fun e : Message => decide (0 < e.lifetime) && decide (e.age = e.lifetime)
    let u := lifetimes t (departures t s)
    let left := s.msgs.queue.filter fun e => decide (e.leaving ≠ none)
    let code := fun why : DoneReason => match why with
      | .complete => 0 | .expired => 1 | .withdrawn => 2 | .cleared => 3 | .evicted => 4 | .unattended => 5
    let told := fun (why : Option DoneReason) (v : State) (e : Message) => raise .event 9 e.tag (be 2 e.tag ++
      be 1 e.cls.rank ++ be 1 (code (why.getD .expired)) ++ be 1 ((s.msgs.showingIn e.tag).getD 255) ++ be 1 e.passes) v
    u.control = ((older.filter due).foldl (told (some .expired)) (left.foldl (fun v e => told e.leaving v e) s)).control ∧
    u.assets = ((left ++ older.filter due).foldl (fun v e => releasePin e.strip v) s).assets ∧
    u.msgs.takeover = s.msgs.takeover ∧ s.keeps u ∧ u.timing = s.timing ∧ u.pgm = s.pgm ∧ u.iso = s.iso ∧
    u.replay = s.replay ∧
    (departures t s).msgs.queue = stay ∧ u.msgs.queue = older.filter (fun e => !due e) ∧
      u.cues.pendingTriggers = s.cues.pendingTriggers ++
        s.msgs.queue.filterMap (fun e => e.leaving.map fun why => ⟨t, .messageDone e.tag why⟩) ++
        (older.filter due).map (fun e => ⟨t, .messageDone e.tag .expired⟩) ∧
      ∀ n : Fin 5, u.msgs.lane n = { s.msgs.lane n with current := (u.msgs.lane n).current } ∧
        ∀ tag, (u.msgs.lane n).current = some tag ↔
          (s.msgs.lane n).current = some tag ∧ ∀ e ∈ s.msgs.queue, e.tag = tag → ∃ x ∈ u.msgs.queue, x.tag = tag) ∧
  (∀ (t : Time) (s : State) (n : Fin 5),
    let l := s.msgs.lane n
    ((∀ tag, l.current = some tag → s.msgs.entry tag = none) → advanceLane t s n = s) ∧
    ∀ tag e, l.current = some tag → s.msgs.entry tag = some e →
      let x := if e.mode = .crawl then l.x - e.pace else l.x
      let left := if e.mode = .hold then l.framesLeft - 1 else l.framesLeft
      let ends := if e.mode = .crawl then x ≤ -((256 * s.assets.recs[e.strip].width : Nat) : Int) else left = 0
      let moved : MessageLane := { l with x := x, framesLeft := left }
      let done : Message := { e with passes := min 255 (e.passes + 1), repeatsLeft := e.repeatsLeft - 1 }
      let others := s.msgs.queue.filter fun y => decide (y.tag ≠ tag)
      (¬ ends → advanceLane t s n = { s with msgs := s.msgs.setLane n moved }) ∧
      (ends → e.repeatsLeft ≠ 1 → advanceLane t s n = { s with msgs :=
        { s.msgs.setLane n { moved with current := none } with
            queue := others.filter (fun y => decide (y.cls.rank ≤ e.cls.rank)) ++ [done] ++
              others.filter fun y => decide (e.cls.rank < y.cls.rank) } }) ∧
      (ends → e.repeatsLeft = 1 →
        let v := advanceLane t s n
        let place := (s.msgs.showingIn tag).getD 255
        v.msgs.queue = others ∧ v.msgs.lane n = { moved with current := none } ∧
        v.assets = (releasePin e.strip s).assets ∧ v.msgs.takeover = s.msgs.takeover ∧
        v.cues.pendingTriggers = s.cues.pendingTriggers ++ [⟨t, .messageDone tag .complete⟩] ∧
        v.control = (raise .event 9 tag (be 2 tag ++ be 1 e.cls.rank ++ be 1 0 ++ be 1 place ++ be 1 done.passes) s).control ∧
        s.keeps v)) ∧
  (∀ (t : Time) (s : State),
    (s.msgs.takeover = true → messagePasses t s = s) ∧
    (s.msgs.takeover = false → messagePasses t s = ([0, 1, 2, 3] : List (Fin 5)).foldl (advanceLane t) s) ∧
    emergencyPass t s = advanceLane t s 4 ∧
    let passed := advanceLane t (lifetimes t (departures t s)) 4
    let flagged : State := { passed with msgs.takeover := passed.msgs.queue.any fun e => decide (e.cls = .emergency) }
    messageStages t s = ([0, 1, 2, 3, 4] : List (Fin 5)).foldl selectEntry (messagePasses t flagged)) ∧
  (∀ (m : Messages) (tag : Nat),
    (∀ n : Fin 4, m.lane n.castSucc = m.lanes[n]) ∧ m.lane 4 = m.emergency ∧
    (∀ (n k : Fin 5) (l : MessageLane), (m.setLane n l).lane k = if k = n then l else m.lane k) ∧
    (m.showingIn tag = none ↔ ∀ n : Fin 5, (m.lane n).current ≠ some tag) ∧
    (∀ k, m.showingIn tag = some k → ∃ n : Fin 5, n.val = k ∧ (m.lane n).current = some tag) ∧
    (m.entry tag = none ↔ ∀ e ∈ m.queue, e.tag ≠ tag) ∧
    ∀ e, m.entry tag = some e → e ∈ m.queue ∧ e.tag = tag) ∧
  ∀ (s : State) (n : Fin 5),
    let l := s.msgs.lane n
    let size := if h : n.val < 4 then s.laneSize ⟨n.val, h⟩ else (8 * s.device.wTiles, 8 * s.device.hTiles)
    let may := if n = 4 then s.msgs.takeover = true else s.msgs.takeover = false ∧ 1 ≤ size.1 ∧ 1 ≤ size.2
    let fits := fun e : Message => (if n = 4 then e.cls = .emergency else e.cls ≠ .emergency ∧ e.lane = n.val) ∧
      e.leaving = none ∧ s.msgs.showingIn e.tag = none
    (l.current ≠ none ∨ ¬ may ∨ (∀ e ∈ s.msgs.queue, ¬ fits e) → selectEntry s n = s) ∧
    ∀ before e later, l.current = none → may → s.msgs.queue = before ++ e :: later → fits e → (∀ y ∈ before, ¬ fits y) →
      selectEntry s n = { s with msgs := s.msgs.setLane n { l with
        current := some e.tag, passWidth := size.1, passHeight := size.2,
        x := if e.mode = .crawl then ((256 * size.1 : Nat) : Int) else l.x,
        framesLeft := if e.mode = .hold then e.pace else l.framesLeft } }

/-- The law of R167: every step keeps at most 32 entries in the message queue, no two with the same tag, ordered by class. -/
def Obligations.MessageLawKept : Prop := ∀ s s' : State, MessageLaw s → step s = .next s' → MessageLaw s'

/-! ### Cues, horn and contact lines -/

/-- Instants and their order (R1): that an instant less than half a wrap before another is past is the model's deduction
(notes/assumptions/4.md); and a trigger, which joins behind those that wait (R191). A horn request that has ended when it is
handed over sounds nothing; any other makes the horn sound until the later of its present end and the request's end (R112, R188).
A stop of a clock channel with an event time, taken at another instant, as an edge's is: brought up to its effective time without
correction, or expired before it, with the report, the trigger and the horn request made at the instant it is taken (R112, R118,
R120); that the report has no place for the effective time is the model's choice (notes/assumptions/36.md). HORN and the horn's
end; CUE_ARM and CUE_DISARM (R188, R193). CONTACT_LEVEL_CHANGE and CONTACT_FILTER_EXPIRY: candidates and recognized edges, the
start or stop of a bound clock channel and the CONTACT trigger (R185, R186); that CLOCK_EXPIRED and CONTACT of one edge are both
raised before the cue unit takes the first is the model's choice (notes/assumptions/44.md). That a start edge sets the last report
time in CONSOLE mode alone is the model's deduction (R117, R119, notes/assumptions/45.md). That a horn end or a filter expiry which
is not due only sets the count is the model's choice (notes/assumptions/8.md). -/
def Obligations.HornAndContacts : Prop :=
  (∀ (a b : Time) (n : Nat),
    elapsed a b = (2 ^ 48 + b.toNat - a.toNat) % 2 ^ 48 ∧ (after a n).toNat = (a.toNat + n) % 2 ^ 48 ∧
    (reached a b = true ↔ elapsed a b < 2 ^ 47) ∧ later a b = (if reached a b = true then b else a) ∧
    ∀ timer, due timer b = true ↔ ∃ x, timer = some x ∧ reached x b = true) ∧
  (∀ (t : Time) (e : TriggerEvent) (s : State), s.at t = { s with count := t } ∧
    raiseTrigger t e s = { s with cues.pendingTriggers := s.cues.pendingTriggers ++ [⟨t, e⟩] }) ∧
  (∀ (h : Time) (q : HornRequest) (s : State),
    (reached q.stop h = true → hornRequest h q s = s) ∧
    (reached q.stop h = false → (s.cues.horn = none → hornRequest h q s = { s with cues.horn := some q.stop }) ∧
      ∀ e, s.cues.horn = some e → hornRequest h q s = { s with cues.horn := some (later e q.stop) })) ∧
  (∀ (e h : Time) (c : Fin 4) (s : State),
    let k := s.clocks[c]
    let cfg := s.clockCfg c
    let te := later e k.ref
    (k.state ≠ .running → stopClock e h c s = s) ∧
    (k.state = .running → elapsed k.ref te < cfg.distanceFrom k.value →
      stopClock e h c s = s.setClock c { k with
        state := .stopped, correction := 0, ref := te,
        value := if cfg.direction = .down then k.value - elapsed k.ref te else k.value + elapsed k.ref te }) ∧
    (k.state = .running → cfg.distanceFrom k.value ≤ elapsed k.ref te →
      let tx := after k.ref (cfg.distanceFrom k.value)
      let u := raiseTrigger h (.clockExpired c tx (some te)) (raise .clock 0 c.val
        (be 1 0 ++ be 6 tx.toNat ++ be 5 cfg.stopAt ++ be 5 k.value)
        (s.setClock c { k with state := .expired, correction := 0, ref := te, value := cfg.stopAt }))
      stopClock e h c s = if cfg.hornOn then hornRequest h ⟨tx, after tx (cfg.hornMs * 27000), some te⟩ u else u)) ∧
  ((∀ (t : Time) (ms : BitVec 16) (s : State), s.takes .horn →
      (10000 < ms.toNat → exec (.horn t ms) s = .next (s.refusing t .horn .range)) ∧
      (ms = 0 → exec (.horn t ms) s = .next (s.at t)) ∧
      (0 < ms.toNat → ms.toNat ≤ 10000 →
        (s.cues.horn = none →
          exec (.horn t ms) s = .next { s with count := t, cues.horn := some (after t (ms.toNat * 27000)) }) ∧
        ∀ e, s.cues.horn = some e →
          exec (.horn t ms) s = .next { s with count := t, cues.horn := some (later e (after t (ms.toNat * 27000))) })) ∧
      (∀ (t : Time) (s : State), s.quiet → exec (.hornEnd t) s =
        .next (if due s.cues.horn t then { s with count := t, cues.horn := none } else s.at t)) ∧
      ∀ (t : Time) (index : Byte) (s : State), s.quiet → s.health ≠ .isolated →
        (31 < index.toNat → exec (.cueArm t index) s = .next (s.refusing t .cueArm .range) ∧
          exec (.cueDisarm t index) s = .next (s.refusing t .cueDisarm .range)) ∧
        ∀ i : Fin 32, index.toNat = i.val →
          exec (.cueArm t index) s = .next ((s.at t).setCue i { s.cues.records[i] with armed := true }) ∧
          exec (.cueDisarm t index) s = .next ((s.at t).setCue i { s.cues.records[i] with armed := false })) ∧
  (∀ (t : Time) (l : Fin 4) (high : Bool) (s : State), s.quiet →
      let x := s.cues.lines[l]
      (high = x.recognized →
        exec (.contactLevelChange t l high) s = .next ((s.at t).setLine l { x with level := high, candidate := none })) ∧
      (high ≠ x.recognized → x.candidate = none →
        exec (.contactLevelChange t l high) s = .next ((s.at t).setLine l { x with
          level := high, candidate := some ⟨high, t, after t ((s.contactCfg l).filterMs * 27000)⟩ })) ∧
      (high ≠ x.recognized → x.candidate ≠ none →
        exec (.contactLevelChange t l high) s = .next ((s.at t).setLine l { x with level := high })) ∧
      (x.candidate = none → exec (.contactFilterExpiry t l) s = .next (s.at t)) ∧
      ∀ c, x.candidate = some c →
        (reached c.expiry t = false → exec (.contactFilterExpiry t l) s = .next (s.at t)) ∧
        (reached c.expiry t = true →
          let u := (s.at t).setLine l { x with recognized := c.level, candidate := none }
          ((s.contactCfg l).channel = none →
            exec (.contactFilterExpiry t l) s = .next (settle (raiseTrigger t (.contact l c.level) u))) ∧
          ∀ ch, (s.contactCfg l).channel = some ch →
            (c.level ≠ (s.contactCfg l).activeLow →
              exec (.contactFilterExpiry t l) s = .next (settle (raiseTrigger t (.contact l c.level)
                (if s.clocks[ch].state = .stopped then u.setClock ch { s.clocks[ch] with
                  state := .running, ref := later c.edge s.clocks[ch].ref,
                  lastReport := if (s.clockCfg ch).console then some (later c.edge s.clocks[ch].ref)
                    else s.clocks[ch].lastReport } else u)))) ∧
            (c.level = (s.contactCfg l).activeLow →
              exec (.contactFilterExpiry t l) s =
                .next (settle (raiseTrigger t (.contact l c.level) (stopClock c.edge t ch u))))))

/-- The law of R191: each cue fires at most once per output frame, and every chain of triggers and firings ends within the command
or event that began it. With no trigger waiting before it, a command or event leaves none waiting, and each cue either keeps its
fired frame and its fire count, or had not fired in the output frame of the instant and now has, once. (At an output frame start
the fire count may also return to 0, by a CUES commit, R189.) That the frame of an instant is the one a frame start scheduled for
it begins, if one is, is R191's rule; where a later event of the same instant cancels or adds that frame start it is the model's
choice (notes/assumptions/31.md). -/
def Obligations.CueOncePerFrame : Prop :=
  ∀ (c : Instr) (s s' : State), TriggerLaw s → exec c s = .next s' → TriggerLaw s' ∧
    ((∀ t o, c ≠ .outputFrameStart t o) → (∀ p, c ≠ .deviceReset p) →
      s'.timing.lastFrameStart = s.timing.lastFrameStart ∧
      ∀ i : Fin 32,
        (s'.cues.records[i].fires = s.cues.records[i].fires ∧ s'.cues.records[i].firedFrame = s.cues.records[i].firedFrame) ∨
        (s.cues.records[i].armed = true ∧ s.cues.records[i].firedFrame ≠ some (s'.frameOf s'.count) ∧
          s'.cues.records[i].firedFrame = some (s'.frameOf s'.count) ∧
          s'.cues.records[i].fires = min 65535 (s.cues.records[i].fires + 1))) ∧
    ∀ t o, c = .outputFrameStart t o → ∀ i : Fin 32,
      s'.cues.records[i].firedFrame = s.cues.records[i].firedFrame ∨
      (s.cues.records[i].firedFrame ≠ some t ∧ s'.cues.records[i].firedFrame = some t)

/-- Which triggers a cue matches, by its trigger kind, index and value (R190); and what a cue does with a trigger (R191, R192):
one that is armed, matches, and has not fired in the trigger's output frame fires: its record counts the firing and the frame, a
ONCE cue is disarmed, and its action is answered by its owner at the trigger's arrival time as that owner's command, a refusal
being reported under the cue; any other cue does nothing. The owners' answers are those that make their commands (R192). The
trigger's output frame is the one that begins at its arrival time when a frame start is scheduled for that instant, else the one
of the last frame start: R191's rule, where a later event of the same instant cancels or adds that frame start the model's choice
(notes/assumptions/31.md). The cue unit takes the first waiting trigger: cues 0 to 31 are looked at in number order, each on what
the cues before it have left, so that several may fire for one trigger; the triggers that their actions raise, at most two each
and with its arrival time, join behind those that wait; then the next is taken, until none waits, stated where those that wait
have one arrival time, as the triggers of one command or event have (R191). So when one trigger waits and exactly one cue fires
for it, whose action sends no trigger, the work is that cue's firing; when none fires it is none. -/
def Obligations.CueFiring : Prop :=
  (∀ c : CueCfg,
    (∀ (ch : Fin 4) (tx : Time) (te : Option Time), triggerMatches c (.clockExpired ch tx te) = true ↔ c.trigger = 0 ∧ c.index = ch.val) ∧
    (∀ (ch : Fin 4) (st : ClockState) (old now : Nat),
      (triggerMatches c (.clockDisplay ch .down st old now) = true ↔
        c.trigger = 1 ∧ c.index = ch.val ∧ c.value < old ∧ now ≤ c.value) ∧
      (triggerMatches c (.clockDisplay ch .up st old now) = true ↔
        c.trigger = 1 ∧ c.index = ch.val ∧ old < c.value ∧ c.value ≤ now)) ∧
    (∀ (f : Fin 16) (old now : Nat),
      (triggerMatches c (.scoreChanged f old now) = true ↔ c.trigger = 2 ∧ c.index = f.val) ∧
      (triggerMatches c (.periodChanged old now) = true ↔ c.trigger = 3)) ∧
    (triggerMatches c .playerEnded = true ↔ c.trigger = 4) ∧
    (∀ tag why, triggerMatches c (.messageDone tag why) = true ↔ c.trigger = 5 ∧ c.value = tag) ∧
    (∀ (l : Fin 4) (rise : Bool), triggerMatches c (.contact l rise) = true ↔
      c.trigger = 6 ∧ c.index = l.val ∧ (c.value = 2 ∨ (c.value = 0 ∧ rise = true) ∨ (c.value = 1 ∧ rise = false))) ∧
    (∀ (i : InputId) (f : Feed), triggerMatches c (.feed i f) = true ↔
      c.trigger = 7 ∧ c.index = (if i = .pgm then 0 else 1) ∧
        c.value = (match f with | .live => 0 | .hold => 1 | .slate => 2)) ∧
    (triggerMatches c .unattended = true ↔ c.trigger = 8)) ∧
  (∀ (g : Trigger) (s : State) (i : Fin 32),
    let r := s.cues.records[i]
    let c := s.cueCfg i
    let frame := if s.timing.schedule.head? = some g.arrival then g.arrival else s.timing.lastFrameStart
    let fires := r.armed = true ∧ triggerMatches c g.event = true ∧ r.firedFrame ≠ some frame
    let marked : CueRecord := { armed := c.every, fires := min 65535 (r.fires + 1), firedFrame := some frame }
    let fired : State := { s with cues.records := s.cues.records.set i marked }
    let answered := fun (a : Reply) (code : Nat) => match a.reason with
      | none => a.state
      | some why => raise .refusal 1 i.val (be 1 (reasonCode why) ++ be 1 code) a.state
    (cueFires s g i = true ↔ fires) ∧ (¬ fires → fireCue g s i = s) ∧
    (∃ more : List Trigger, (fireCue g s i).cues.pendingTriggers = s.cues.pendingTriggers ++ more ∧ more.length ≤ 2 ∧
      ∀ x ∈ more, x.arrival = g.arrival) ∧
    (fires →
      (c.action = 0 → fireCue g s i = answered (clockStartOp g.arrival c.actionIndex fired) 22) ∧
      (c.action = 1 → fireCue g s i = answered (clockStopOp g.arrival c.actionIndex fired) 23) ∧
      (c.action = 2 → fireCue g s i = answered (clockPresetOp g.arrival c.actionIndex fired) 26) ∧
      (c.action = 3 → fireCue g s i = answered (playOp c.actionIndex c.n c.d c.endAction fired) 17) ∧
      (c.action = 4 → fireCue g s i = playerStop fired) ∧
      (c.action = 5 → fireCue g s i = answered (
        if 7 < c.actionIndex then refuse fired .range
        else if (s.template c.actionIndex).defined = false then refuse fired .notDefined
        else postOp g.arrival (s.template c.actionIndex).fields fired) 34) ∧
      (c.action = 6 → fireCue g s i = answered (withdrawOp g.arrival c.actionValue fired) 35) ∧
      (c.action = 7 → fireCue g s i = answered (layoutSelectOp c.actionIndex fired) 6) ∧
      (c.action = 8 → fireCue g s i = answered (periodCloseOp fired) 32) ∧
      (c.action = 9 → fireCue g s i = answered (hornOp g.arrival c.actionValue fired) 37) ∧
      (c.action = 10 → fireCue g s i =
        answered (scoreAddOp g.arrival c.actionIndex (BitVec.ofNat 16 c.actionValue).toInt fired) 29))) ∧
  (∀ (t : Time) (s : State),
    let u := s.at t
    let taken := fun (a : Reply) (code : Nat) => settle (match a.reason with
      | none => a.state
      | some why => raise .refusal 0 code (be 1 (reasonCode why) ++ be 1 code) a.state)
    (s.quiet → s.health ≠ .isolated →
      (∀ b : Byte, exec (.clockStart t b) s = .next (taken (clockStartOp t b.toNat u) 22) ∧
        exec (.clockStop t b) s = .next (taken (clockStopOp t b.toNat u) 23) ∧
        exec (.clockPreset t b) s = .next (taken (clockPresetOp t b.toNat u) 26) ∧
        exec (.layoutSelect t b) s = .next (taken (layoutSelectOp b.toNat u) 6)) ∧
      (∀ mark n d act : Byte,
        exec (.play t mark n d act) s = .next (taken (playOp mark.toNat n.toNat d.toNat act.toNat u) 17)) ∧
      exec (.playerStop t) s = .next (settle (playerStop u)) ∧
      exec (.periodClose t) s = .next (taken (periodCloseOp u) 32) ∧
      (∀ ms : BitVec 16, exec (.horn t ms) s = .next (taken (hornOp t ms.toNat u) 37)) ∧
      ∀ (field : Byte) (delta : BitVec 16),
        exec (.scoreAdd t field delta) s = .next (taken (scoreAddOp t field.toNat delta.toInt u) 29)) ∧
    (s.quiet → ∀ tag : BitVec 16, exec (.withdraw t tag) s = .next (taken (withdrawOp t tag.toNat u) 35)) ∧
    ∀ (tag : BitVec 16) (cls : Byte) (strip : BitVec 16) (lane mode : Byte) (pace : BitVec 16) (repeats : Byte)
      (lifetime : BitVec 16), s.takes .post (decide (cls = 0)) →
      exec (.post t tag cls strip lane mode pace repeats lifetime) s = .next (taken (postOp t
        { tag := tag.toNat, cls := cls.toNat, strip := strip.toNat, lane := lane.toNat, mode := mode.toNat,
          pace := pace.toNat, repeats := repeats.toNat, lifetime := lifetime.toNat } u) 34)) ∧
  (∀ s : State, s.cues.pendingTriggers = [] → settle s = s) ∧
  (∀ (g : Trigger) (rest : List Trigger) (s : State), s.cues.pendingTriggers = g :: rest →
    (∀ x ∈ rest, x.arrival = g.arrival) →
    settle s = settle ((List.finRange 32).foldl (fireCue g) { s with cues.pendingTriggers := rest })) ∧
  ∀ (g : Trigger) (s : State), s.cues.pendingTriggers = [g] →
    let v : State := { s with cues.pendingTriggers := [] }
    ((∀ i : Fin 32, cueFires s g i = false) → settle s = v) ∧
    ∀ i : Fin 32, cueFires s g i = true → (∀ j : Fin 32, j ≠ i → cueFires s g j = false) →
      (fireCue g v i).cues.pendingTriggers = [] → settle s = fireCue g v i
end

