-- ==== Sys2Proof/Laws/State.lean ====
section
/-! SUPPORT. One lemma for each field of the state after each named update, so that no later proof unfolds a record update. -/

set_option Elab.async false

namespace Sys2Proof.Machine

/-! ### State.setAsset -/

@[simp] theorem State.setAsset_count (s : State) (id : AssetId) (a : Asset) : (s.setAsset id a).count = s.count := rfl
@[simp] theorem State.setAsset_inReset (s : State) (id : AssetId) (a : Asset) : (s.setAsset id a).inReset = s.inReset := rfl
@[simp] theorem State.setAsset_pins (s : State) (id : AssetId) (a : Asset) : (s.setAsset id a).pins = s.pins := rfl
@[simp] theorem State.setAsset_pgm (s : State) (id : AssetId) (a : Asset) : (s.setAsset id a).pgm = s.pgm := rfl
@[simp] theorem State.setAsset_iso (s : State) (id : AssetId) (a : Asset) : (s.setAsset id a).iso = s.iso := rfl
@[simp] theorem State.setAsset_timing (s : State) (id : AssetId) (a : Asset) : (s.setAsset id a).timing = s.timing := rfl
@[simp] theorem State.setAsset_control (s : State) (id : AssetId) (a : Asset) : (s.setAsset id a).control = s.control := rfl
@[simp] theorem State.setAsset_active (s : State) (id : AssetId) (a : Asset) : (s.setAsset id a).active = s.active := rfl
@[simp] theorem State.setAsset_comp (s : State) (id : AssetId) (a : Asset) : (s.setAsset id a).comp = s.comp := rfl
@[simp] theorem State.setAsset_assets (s : State) (id : AssetId) (a : Asset) : (s.setAsset id a).assets = { s.assets with recs := s.assets.recs.set id a } := rfl
@[simp] theorem State.setAsset_replay (s : State) (id : AssetId) (a : Asset) : (s.setAsset id a).replay = s.replay := rfl
@[simp] theorem State.setAsset_clocks (s : State) (id : AssetId) (a : Asset) : (s.setAsset id a).clocks = s.clocks := rfl
@[simp] theorem State.setAsset_score (s : State) (id : AssetId) (a : Asset) : (s.setAsset id a).score = s.score := rfl
@[simp] theorem State.setAsset_sponsor (s : State) (id : AssetId) (a : Asset) : (s.setAsset id a).sponsor = s.sponsor := rfl
@[simp] theorem State.setAsset_msgs (s : State) (id : AssetId) (a : Asset) : (s.setAsset id a).msgs = s.msgs := rfl
@[simp] theorem State.setAsset_cues (s : State) (id : AssetId) (a : Asset) : (s.setAsset id a).cues = s.cues := rfl
@[simp] theorem State.setAsset_pending (s : State) (id : AssetId) (a : Asset) : (s.setAsset id a).pending = s.pending := rfl

/-! ### State.setClock -/

@[simp] theorem State.setClock_count (s : State) (c : Fin 4) (k : Clock) : (s.setClock c k).count = s.count := rfl
@[simp] theorem State.setClock_inReset (s : State) (c : Fin 4) (k : Clock) : (s.setClock c k).inReset = s.inReset := rfl
@[simp] theorem State.setClock_pins (s : State) (c : Fin 4) (k : Clock) : (s.setClock c k).pins = s.pins := rfl
@[simp] theorem State.setClock_pgm (s : State) (c : Fin 4) (k : Clock) : (s.setClock c k).pgm = s.pgm := rfl
@[simp] theorem State.setClock_iso (s : State) (c : Fin 4) (k : Clock) : (s.setClock c k).iso = s.iso := rfl
@[simp] theorem State.setClock_timing (s : State) (c : Fin 4) (k : Clock) : (s.setClock c k).timing = s.timing := rfl
@[simp] theorem State.setClock_control (s : State) (c : Fin 4) (k : Clock) : (s.setClock c k).control = s.control := rfl
@[simp] theorem State.setClock_active (s : State) (c : Fin 4) (k : Clock) : (s.setClock c k).active = s.active := rfl
@[simp] theorem State.setClock_comp (s : State) (c : Fin 4) (k : Clock) : (s.setClock c k).comp = s.comp := rfl
@[simp] theorem State.setClock_assets (s : State) (c : Fin 4) (k : Clock) : (s.setClock c k).assets = s.assets := rfl
@[simp] theorem State.setClock_replay (s : State) (c : Fin 4) (k : Clock) : (s.setClock c k).replay = s.replay := rfl
@[simp] theorem State.setClock_clocks (s : State) (c : Fin 4) (k : Clock) : (s.setClock c k).clocks = s.clocks.set c k := rfl
@[simp] theorem State.setClock_score (s : State) (c : Fin 4) (k : Clock) : (s.setClock c k).score = s.score := rfl
@[simp] theorem State.setClock_sponsor (s : State) (c : Fin 4) (k : Clock) : (s.setClock c k).sponsor = s.sponsor := rfl
@[simp] theorem State.setClock_msgs (s : State) (c : Fin 4) (k : Clock) : (s.setClock c k).msgs = s.msgs := rfl
@[simp] theorem State.setClock_cues (s : State) (c : Fin 4) (k : Clock) : (s.setClock c k).cues = s.cues := rfl
@[simp] theorem State.setClock_pending (s : State) (c : Fin 4) (k : Clock) : (s.setClock c k).pending = s.pending := rfl

/-! ### State.setAccrual -/

@[simp] theorem State.setAccrual_count (s : State) (i : Fin 64) (a : Accrual) : (s.setAccrual i a).count = s.count := rfl
@[simp] theorem State.setAccrual_inReset (s : State) (i : Fin 64) (a : Accrual) : (s.setAccrual i a).inReset = s.inReset := rfl
@[simp] theorem State.setAccrual_pins (s : State) (i : Fin 64) (a : Accrual) : (s.setAccrual i a).pins = s.pins := rfl
@[simp] theorem State.setAccrual_pgm (s : State) (i : Fin 64) (a : Accrual) : (s.setAccrual i a).pgm = s.pgm := rfl
@[simp] theorem State.setAccrual_iso (s : State) (i : Fin 64) (a : Accrual) : (s.setAccrual i a).iso = s.iso := rfl
@[simp] theorem State.setAccrual_timing (s : State) (i : Fin 64) (a : Accrual) : (s.setAccrual i a).timing = s.timing := rfl
@[simp] theorem State.setAccrual_control (s : State) (i : Fin 64) (a : Accrual) : (s.setAccrual i a).control = s.control := rfl
@[simp] theorem State.setAccrual_active (s : State) (i : Fin 64) (a : Accrual) : (s.setAccrual i a).active = s.active := rfl
@[simp] theorem State.setAccrual_comp (s : State) (i : Fin 64) (a : Accrual) : (s.setAccrual i a).comp = s.comp := rfl
@[simp] theorem State.setAccrual_assets (s : State) (i : Fin 64) (a : Accrual) : (s.setAccrual i a).assets = s.assets := rfl
@[simp] theorem State.setAccrual_replay (s : State) (i : Fin 64) (a : Accrual) : (s.setAccrual i a).replay = s.replay := rfl
@[simp] theorem State.setAccrual_clocks (s : State) (i : Fin 64) (a : Accrual) : (s.setAccrual i a).clocks = s.clocks := rfl
@[simp] theorem State.setAccrual_score (s : State) (i : Fin 64) (a : Accrual) : (s.setAccrual i a).score = s.score := rfl
@[simp] theorem State.setAccrual_sponsor (s : State) (i : Fin 64) (a : Accrual) : (s.setAccrual i a).sponsor = { s.sponsor with accruals := s.sponsor.accruals.set i a } := rfl
@[simp] theorem State.setAccrual_msgs (s : State) (i : Fin 64) (a : Accrual) : (s.setAccrual i a).msgs = s.msgs := rfl
@[simp] theorem State.setAccrual_cues (s : State) (i : Fin 64) (a : Accrual) : (s.setAccrual i a).cues = s.cues := rfl
@[simp] theorem State.setAccrual_pending (s : State) (i : Fin 64) (a : Accrual) : (s.setAccrual i a).pending = s.pending := rfl

/-! ### State.setLane -/

@[simp] theorem State.setLane_count (s : State) (l : Fin 8) (x : SponsorLane) : (s.setLane l x).count = s.count := rfl
@[simp] theorem State.setLane_inReset (s : State) (l : Fin 8) (x : SponsorLane) : (s.setLane l x).inReset = s.inReset := rfl
@[simp] theorem State.setLane_pins (s : State) (l : Fin 8) (x : SponsorLane) : (s.setLane l x).pins = s.pins := rfl
@[simp] theorem State.setLane_pgm (s : State) (l : Fin 8) (x : SponsorLane) : (s.setLane l x).pgm = s.pgm := rfl
@[simp] theorem State.setLane_iso (s : State) (l : Fin 8) (x : SponsorLane) : (s.setLane l x).iso = s.iso := rfl
@[simp] theorem State.setLane_timing (s : State) (l : Fin 8) (x : SponsorLane) : (s.setLane l x).timing = s.timing := rfl
@[simp] theorem State.setLane_control (s : State) (l : Fin 8) (x : SponsorLane) : (s.setLane l x).control = s.control := rfl
@[simp] theorem State.setLane_active (s : State) (l : Fin 8) (x : SponsorLane) : (s.setLane l x).active = s.active := rfl
@[simp] theorem State.setLane_comp (s : State) (l : Fin 8) (x : SponsorLane) : (s.setLane l x).comp = s.comp := rfl
@[simp] theorem State.setLane_assets (s : State) (l : Fin 8) (x : SponsorLane) : (s.setLane l x).assets = s.assets := rfl
@[simp] theorem State.setLane_replay (s : State) (l : Fin 8) (x : SponsorLane) : (s.setLane l x).replay = s.replay := rfl
@[simp] theorem State.setLane_clocks (s : State) (l : Fin 8) (x : SponsorLane) : (s.setLane l x).clocks = s.clocks := rfl
@[simp] theorem State.setLane_score (s : State) (l : Fin 8) (x : SponsorLane) : (s.setLane l x).score = s.score := rfl
@[simp] theorem State.setLane_sponsor (s : State) (l : Fin 8) (x : SponsorLane) : (s.setLane l x).sponsor = { s.sponsor with lanes := s.sponsor.lanes.set l x } := rfl
@[simp] theorem State.setLane_msgs (s : State) (l : Fin 8) (x : SponsorLane) : (s.setLane l x).msgs = s.msgs := rfl
@[simp] theorem State.setLane_cues (s : State) (l : Fin 8) (x : SponsorLane) : (s.setLane l x).cues = s.cues := rfl
@[simp] theorem State.setLane_pending (s : State) (l : Fin 8) (x : SponsorLane) : (s.setLane l x).pending = s.pending := rfl

/-! ### State.setMark -/

@[simp] theorem State.setMark_count (s : State) (m : Fin 16) (v : Mark) : (s.setMark m v).count = s.count := rfl
@[simp] theorem State.setMark_inReset (s : State) (m : Fin 16) (v : Mark) : (s.setMark m v).inReset = s.inReset := rfl
@[simp] theorem State.setMark_pins (s : State) (m : Fin 16) (v : Mark) : (s.setMark m v).pins = s.pins := rfl
@[simp] theorem State.setMark_pgm (s : State) (m : Fin 16) (v : Mark) : (s.setMark m v).pgm = s.pgm := rfl
@[simp] theorem State.setMark_iso (s : State) (m : Fin 16) (v : Mark) : (s.setMark m v).iso = s.iso := rfl
@[simp] theorem State.setMark_timing (s : State) (m : Fin 16) (v : Mark) : (s.setMark m v).timing = s.timing := rfl
@[simp] theorem State.setMark_control (s : State) (m : Fin 16) (v : Mark) : (s.setMark m v).control = s.control := rfl
@[simp] theorem State.setMark_active (s : State) (m : Fin 16) (v : Mark) : (s.setMark m v).active = s.active := rfl
@[simp] theorem State.setMark_comp (s : State) (m : Fin 16) (v : Mark) : (s.setMark m v).comp = s.comp := rfl
@[simp] theorem State.setMark_assets (s : State) (m : Fin 16) (v : Mark) : (s.setMark m v).assets = s.assets := rfl
@[simp] theorem State.setMark_replay (s : State) (m : Fin 16) (v : Mark) : (s.setMark m v).replay = { s.replay with marks := s.replay.marks.set m v } := rfl
@[simp] theorem State.setMark_clocks (s : State) (m : Fin 16) (v : Mark) : (s.setMark m v).clocks = s.clocks := rfl
@[simp] theorem State.setMark_score (s : State) (m : Fin 16) (v : Mark) : (s.setMark m v).score = s.score := rfl
@[simp] theorem State.setMark_sponsor (s : State) (m : Fin 16) (v : Mark) : (s.setMark m v).sponsor = s.sponsor := rfl
@[simp] theorem State.setMark_msgs (s : State) (m : Fin 16) (v : Mark) : (s.setMark m v).msgs = s.msgs := rfl
@[simp] theorem State.setMark_cues (s : State) (m : Fin 16) (v : Mark) : (s.setMark m v).cues = s.cues := rfl
@[simp] theorem State.setMark_pending (s : State) (m : Fin 16) (v : Mark) : (s.setMark m v).pending = s.pending := rfl

/-! ### State.setCue -/

@[simp] theorem State.setCue_count (s : State) (i : Fin 32) (r : CueRecord) : (s.setCue i r).count = s.count := rfl
@[simp] theorem State.setCue_inReset (s : State) (i : Fin 32) (r : CueRecord) : (s.setCue i r).inReset = s.inReset := rfl
@[simp] theorem State.setCue_pins (s : State) (i : Fin 32) (r : CueRecord) : (s.setCue i r).pins = s.pins := rfl
@[simp] theorem State.setCue_pgm (s : State) (i : Fin 32) (r : CueRecord) : (s.setCue i r).pgm = s.pgm := rfl
@[simp] theorem State.setCue_iso (s : State) (i : Fin 32) (r : CueRecord) : (s.setCue i r).iso = s.iso := rfl
@[simp] theorem State.setCue_timing (s : State) (i : Fin 32) (r : CueRecord) : (s.setCue i r).timing = s.timing := rfl
@[simp] theorem State.setCue_control (s : State) (i : Fin 32) (r : CueRecord) : (s.setCue i r).control = s.control := rfl
@[simp] theorem State.setCue_active (s : State) (i : Fin 32) (r : CueRecord) : (s.setCue i r).active = s.active := rfl
@[simp] theorem State.setCue_comp (s : State) (i : Fin 32) (r : CueRecord) : (s.setCue i r).comp = s.comp := rfl
@[simp] theorem State.setCue_assets (s : State) (i : Fin 32) (r : CueRecord) : (s.setCue i r).assets = s.assets := rfl
@[simp] theorem State.setCue_replay (s : State) (i : Fin 32) (r : CueRecord) : (s.setCue i r).replay = s.replay := rfl
@[simp] theorem State.setCue_clocks (s : State) (i : Fin 32) (r : CueRecord) : (s.setCue i r).clocks = s.clocks := rfl
@[simp] theorem State.setCue_score (s : State) (i : Fin 32) (r : CueRecord) : (s.setCue i r).score = s.score := rfl
@[simp] theorem State.setCue_sponsor (s : State) (i : Fin 32) (r : CueRecord) : (s.setCue i r).sponsor = s.sponsor := rfl
@[simp] theorem State.setCue_msgs (s : State) (i : Fin 32) (r : CueRecord) : (s.setCue i r).msgs = s.msgs := rfl
@[simp] theorem State.setCue_cues (s : State) (i : Fin 32) (r : CueRecord) : (s.setCue i r).cues = { s.cues with records := s.cues.records.set i r } := rfl
@[simp] theorem State.setCue_pending (s : State) (i : Fin 32) (r : CueRecord) : (s.setCue i r).pending = s.pending := rfl

/-! ### State.setLine -/

@[simp] theorem State.setLine_count (s : State) (l : Fin 4) (x : ContactLine) : (s.setLine l x).count = s.count := rfl
@[simp] theorem State.setLine_inReset (s : State) (l : Fin 4) (x : ContactLine) : (s.setLine l x).inReset = s.inReset := rfl
@[simp] theorem State.setLine_pins (s : State) (l : Fin 4) (x : ContactLine) : (s.setLine l x).pins = s.pins := rfl
@[simp] theorem State.setLine_pgm (s : State) (l : Fin 4) (x : ContactLine) : (s.setLine l x).pgm = s.pgm := rfl
@[simp] theorem State.setLine_iso (s : State) (l : Fin 4) (x : ContactLine) : (s.setLine l x).iso = s.iso := rfl
@[simp] theorem State.setLine_timing (s : State) (l : Fin 4) (x : ContactLine) : (s.setLine l x).timing = s.timing := rfl
@[simp] theorem State.setLine_control (s : State) (l : Fin 4) (x : ContactLine) : (s.setLine l x).control = s.control := rfl
@[simp] theorem State.setLine_active (s : State) (l : Fin 4) (x : ContactLine) : (s.setLine l x).active = s.active := rfl
@[simp] theorem State.setLine_comp (s : State) (l : Fin 4) (x : ContactLine) : (s.setLine l x).comp = s.comp := rfl
@[simp] theorem State.setLine_assets (s : State) (l : Fin 4) (x : ContactLine) : (s.setLine l x).assets = s.assets := rfl
@[simp] theorem State.setLine_replay (s : State) (l : Fin 4) (x : ContactLine) : (s.setLine l x).replay = s.replay := rfl
@[simp] theorem State.setLine_clocks (s : State) (l : Fin 4) (x : ContactLine) : (s.setLine l x).clocks = s.clocks := rfl
@[simp] theorem State.setLine_score (s : State) (l : Fin 4) (x : ContactLine) : (s.setLine l x).score = s.score := rfl
@[simp] theorem State.setLine_sponsor (s : State) (l : Fin 4) (x : ContactLine) : (s.setLine l x).sponsor = s.sponsor := rfl
@[simp] theorem State.setLine_msgs (s : State) (l : Fin 4) (x : ContactLine) : (s.setLine l x).msgs = s.msgs := rfl
@[simp] theorem State.setLine_cues (s : State) (l : Fin 4) (x : ContactLine) : (s.setLine l x).cues = { s.cues with lines := s.cues.lines.set l x } := rfl
@[simp] theorem State.setLine_pending (s : State) (l : Fin 4) (x : ContactLine) : (s.setLine l x).pending = s.pending := rfl

/-! ### State.setLoad -/

@[simp] theorem State.setLoad_count (s : State) (id : Fin 15) (l : LoadState) : (s.setLoad id l).count = s.count := rfl
@[simp] theorem State.setLoad_inReset (s : State) (id : Fin 15) (l : LoadState) : (s.setLoad id l).inReset = s.inReset := rfl
@[simp] theorem State.setLoad_pins (s : State) (id : Fin 15) (l : LoadState) : (s.setLoad id l).pins = s.pins := rfl
@[simp] theorem State.setLoad_pgm (s : State) (id : Fin 15) (l : LoadState) : (s.setLoad id l).pgm = s.pgm := rfl
@[simp] theorem State.setLoad_iso (s : State) (id : Fin 15) (l : LoadState) : (s.setLoad id l).iso = s.iso := rfl
@[simp] theorem State.setLoad_timing (s : State) (id : Fin 15) (l : LoadState) : (s.setLoad id l).timing = s.timing := rfl
@[simp] theorem State.setLoad_control (s : State) (id : Fin 15) (l : LoadState) : (s.setLoad id l).control = { s.control with loads := s.control.loads.set id l } := rfl
@[simp] theorem State.setLoad_active (s : State) (id : Fin 15) (l : LoadState) : (s.setLoad id l).active = s.active := rfl
@[simp] theorem State.setLoad_comp (s : State) (id : Fin 15) (l : LoadState) : (s.setLoad id l).comp = s.comp := rfl
@[simp] theorem State.setLoad_assets (s : State) (id : Fin 15) (l : LoadState) : (s.setLoad id l).assets = s.assets := rfl
@[simp] theorem State.setLoad_replay (s : State) (id : Fin 15) (l : LoadState) : (s.setLoad id l).replay = s.replay := rfl
@[simp] theorem State.setLoad_clocks (s : State) (id : Fin 15) (l : LoadState) : (s.setLoad id l).clocks = s.clocks := rfl
@[simp] theorem State.setLoad_score (s : State) (id : Fin 15) (l : LoadState) : (s.setLoad id l).score = s.score := rfl
@[simp] theorem State.setLoad_sponsor (s : State) (id : Fin 15) (l : LoadState) : (s.setLoad id l).sponsor = s.sponsor := rfl
@[simp] theorem State.setLoad_msgs (s : State) (id : Fin 15) (l : LoadState) : (s.setLoad id l).msgs = s.msgs := rfl
@[simp] theorem State.setLoad_cues (s : State) (id : Fin 15) (l : LoadState) : (s.setLoad id l).cues = s.cues := rfl
@[simp] theorem State.setLoad_pending (s : State) (id : Fin 15) (l : LoadState) : (s.setLoad id l).pending = s.pending := rfl

/-! ### State.setTable -/

@[simp] theorem State.setTable_count (s : State) (id : Fin 15) (bs : List Byte) : (s.setTable id bs).count = s.count := rfl
@[simp] theorem State.setTable_inReset (s : State) (id : Fin 15) (bs : List Byte) : (s.setTable id bs).inReset = s.inReset := rfl
@[simp] theorem State.setTable_pins (s : State) (id : Fin 15) (bs : List Byte) : (s.setTable id bs).pins = s.pins := rfl
@[simp] theorem State.setTable_pgm (s : State) (id : Fin 15) (bs : List Byte) : (s.setTable id bs).pgm = s.pgm := rfl
@[simp] theorem State.setTable_iso (s : State) (id : Fin 15) (bs : List Byte) : (s.setTable id bs).iso = s.iso := rfl
@[simp] theorem State.setTable_timing (s : State) (id : Fin 15) (bs : List Byte) : (s.setTable id bs).timing = s.timing := rfl
@[simp] theorem State.setTable_control (s : State) (id : Fin 15) (bs : List Byte) : (s.setTable id bs).control = s.control := rfl
@[simp] theorem State.setTable_active (s : State) (id : Fin 15) (bs : List Byte) : (s.setTable id bs).active = s.active.set id bs := rfl
@[simp] theorem State.setTable_comp (s : State) (id : Fin 15) (bs : List Byte) : (s.setTable id bs).comp = s.comp := rfl
@[simp] theorem State.setTable_assets (s : State) (id : Fin 15) (bs : List Byte) : (s.setTable id bs).assets = s.assets := rfl
@[simp] theorem State.setTable_replay (s : State) (id : Fin 15) (bs : List Byte) : (s.setTable id bs).replay = s.replay := rfl
@[simp] theorem State.setTable_clocks (s : State) (id : Fin 15) (bs : List Byte) : (s.setTable id bs).clocks = s.clocks := rfl
@[simp] theorem State.setTable_score (s : State) (id : Fin 15) (bs : List Byte) : (s.setTable id bs).score = s.score := rfl
@[simp] theorem State.setTable_sponsor (s : State) (id : Fin 15) (bs : List Byte) : (s.setTable id bs).sponsor = s.sponsor := rfl
@[simp] theorem State.setTable_msgs (s : State) (id : Fin 15) (bs : List Byte) : (s.setTable id bs).msgs = s.msgs := rfl
@[simp] theorem State.setTable_cues (s : State) (id : Fin 15) (bs : List Byte) : (s.setTable id bs).cues = s.cues := rfl
@[simp] theorem State.setTable_pending (s : State) (id : Fin 15) (bs : List Byte) : (s.setTable id bs).pending = s.pending := rfl

/-! ### State.at -/

@[simp] theorem State.at_count (s : State) (t : Time) : (s.at t).count = t := rfl
@[simp] theorem State.at_inReset (s : State) (t : Time) : (s.at t).inReset = s.inReset := rfl
@[simp] theorem State.at_pins (s : State) (t : Time) : (s.at t).pins = s.pins := rfl
@[simp] theorem State.at_pgm (s : State) (t : Time) : (s.at t).pgm = s.pgm := rfl
@[simp] theorem State.at_iso (s : State) (t : Time) : (s.at t).iso = s.iso := rfl
@[simp] theorem State.at_timing (s : State) (t : Time) : (s.at t).timing = s.timing := rfl
@[simp] theorem State.at_control (s : State) (t : Time) : (s.at t).control = s.control := rfl
@[simp] theorem State.at_active (s : State) (t : Time) : (s.at t).active = s.active := rfl
@[simp] theorem State.at_comp (s : State) (t : Time) : (s.at t).comp = s.comp := rfl
@[simp] theorem State.at_assets (s : State) (t : Time) : (s.at t).assets = s.assets := rfl
@[simp] theorem State.at_replay (s : State) (t : Time) : (s.at t).replay = s.replay := rfl
@[simp] theorem State.at_clocks (s : State) (t : Time) : (s.at t).clocks = s.clocks := rfl
@[simp] theorem State.at_score (s : State) (t : Time) : (s.at t).score = s.score := rfl
@[simp] theorem State.at_sponsor (s : State) (t : Time) : (s.at t).sponsor = s.sponsor := rfl
@[simp] theorem State.at_msgs (s : State) (t : Time) : (s.at t).msgs = s.msgs := rfl
@[simp] theorem State.at_cues (s : State) (t : Time) : (s.at t).cues = s.cues := rfl
@[simp] theorem State.at_pending (s : State) (t : Time) : (s.at t).pending = s.pending := rfl

/-! ### State.setReceiver -/

@[simp] theorem State.setReceiver_count (s : State) (i : InputId) (r : Receiver) : (s.setReceiver i r).count = s.count := by
  cases i <;> rfl
@[simp] theorem State.setReceiver_inReset (s : State) (i : InputId) (r : Receiver) : (s.setReceiver i r).inReset = s.inReset := by
  cases i <;> rfl
@[simp] theorem State.setReceiver_pins (s : State) (i : InputId) (r : Receiver) : (s.setReceiver i r).pins = s.pins := by
  cases i <;> rfl
@[simp] theorem State.setReceiver_timing (s : State) (i : InputId) (r : Receiver) : (s.setReceiver i r).timing = s.timing := by
  cases i <;> rfl
@[simp] theorem State.setReceiver_control (s : State) (i : InputId) (r : Receiver) : (s.setReceiver i r).control = s.control := by
  cases i <;> rfl
@[simp] theorem State.setReceiver_active (s : State) (i : InputId) (r : Receiver) : (s.setReceiver i r).active = s.active := by
  cases i <;> rfl
@[simp] theorem State.setReceiver_comp (s : State) (i : InputId) (r : Receiver) : (s.setReceiver i r).comp = s.comp := by
  cases i <;> rfl
@[simp] theorem State.setReceiver_assets (s : State) (i : InputId) (r : Receiver) : (s.setReceiver i r).assets = s.assets := by
  cases i <;> rfl
@[simp] theorem State.setReceiver_replay (s : State) (i : InputId) (r : Receiver) : (s.setReceiver i r).replay = s.replay := by
  cases i <;> rfl
@[simp] theorem State.setReceiver_clocks (s : State) (i : InputId) (r : Receiver) : (s.setReceiver i r).clocks = s.clocks := by
  cases i <;> rfl
@[simp] theorem State.setReceiver_score (s : State) (i : InputId) (r : Receiver) : (s.setReceiver i r).score = s.score := by
  cases i <;> rfl
@[simp] theorem State.setReceiver_sponsor (s : State) (i : InputId) (r : Receiver) : (s.setReceiver i r).sponsor = s.sponsor := by
  cases i <;> rfl
@[simp] theorem State.setReceiver_msgs (s : State) (i : InputId) (r : Receiver) : (s.setReceiver i r).msgs = s.msgs := by
  cases i <;> rfl
@[simp] theorem State.setReceiver_cues (s : State) (i : InputId) (r : Receiver) : (s.setReceiver i r).cues = s.cues := by
  cases i <;> rfl
@[simp] theorem State.setReceiver_pending (s : State) (i : InputId) (r : Receiver) : (s.setReceiver i r).pending = s.pending := by
  cases i <;> rfl
@[simp] theorem State.setReceiver_self (s : State) (i : InputId) (r : Receiver) : (s.setReceiver i r).receiver i = r := by
  cases i <;> rfl
theorem State.setReceiver_other (s : State) (i j : InputId) (r : Receiver) (h : i ≠ j) :
    (s.setReceiver i r).receiver j = s.receiver j := by
  cases i <;> cases j <;> first | rfl | exact absurd rfl h

theorem State.setReceiver_receiver (s : State) (i : InputId) : s.setReceiver i (s.receiver i) = s := by cases i <;> rfl

/-- A frame leaves what HOLD offers as it is (R8). -/
theorem Receiver.frame_held (r : Receiver) (i : InputId) (t : Time) (f : InputFrame) : (r.frame i t f).held = r.held := by
  unfold Receiver.frame Receiver.acquire Receiver.judge Receiver.measure
  dsimp only
  repeat' split
  all_goals rfl

/-- Everything that holding the frozen frame can do (R8). -/
theorem holdFrozen_eq (i : InputId) (s : State) :
    holdFrozen i s = s.setReceiver i { s.receiver i with
      held := if (s.receiver i).feed = .live ∨ (i = .pgm ∧ s.timing.op = .live) then (s.receiver i).frozen else (s.receiver i).held } := by
  unfold holdFrozen
  dsimp only
  split
  · rfl
  · exact (State.setReceiver_receiver s i).symm

/-! ### What a table or a lane is read from -/

/-- The views of the tables read nothing but the active copies. -/
theorem State.device_congr (s s' : State) (h : s'.active = s.active) : s'.device = s.device := by
  simp only [State.device, h]

theorem State.unit_congr (s s' : State) (h : s'.active = s.active) : s'.unit = s.unit := by simp only [State.unit, h]

theorem State.clockCfg_congr (s s' : State) (h : s'.active = s.active) (c : Fin 4) : s'.clockCfg c = s.clockCfg c := by
  simp only [State.clockCfg, h]

theorem State.contract_congr (s s' : State) (h : s'.active = s.active) (i : Fin 64) : s'.contract i = s.contract i := by
  simp only [State.contract, h]

end Sys2Proof.Machine
end

