-- ==== Sys2Proof/Laws/Raising.lean ====
section
/-! SUPPORT. What raising a report can do: which of the state it changes, and that the queue keeps its law (R39, R40). -/

set_option Elab.async false

namespace Sys2Proof.Machine

/-! ### The queue -/

/-- Everything raising a report can do to the queue: it coalesces, joins at the newest place, takes the place of the newest
report of the largest rank, or is discarded (R39, R40). -/
theorem enqueue_cases (q : List Report) (r : Report) :
    (q.any (·.same r) = true ∧ enqueue q r =
      ⟨q.map fun x => if x.same r then { x with payload := r.payload, repeats := min 255 (x.repeats + 1) } else x,
        false, none, true⟩) ∨
    (q.any (·.same r) = false ∧ q.length < Config.reportQueueSize ∧
      enqueue q r = ⟨q ++ [{ r with repeats := 0 }], false, none, true⟩) ∨
    (q.any (·.same r) = false ∧ Config.reportQueueSize ≤ q.length ∧ r.kind.rank < largestRank q ∧
      enqueue q r =
        ⟨dropNewest (largestRank q) q ++ [{ r with repeats := 0 }], true, newestOf (largestRank q) q, true⟩) ∨
    (q.any (·.same r) = false ∧ Config.reportQueueSize ≤ q.length ∧ largestRank q ≤ r.kind.rank ∧
      enqueue q r = ⟨q, true, none, false⟩) := by
  unfold enqueue
  split
  · left; simp_all
  · split
    · right; left; simp_all
    · split
      · right; right; left; simp_all
      · right; right; right; simp_all

/-- The state differs at most in the report queue, the lost report count and the readback cursor. -/
def Raised (s s' : State) : Prop :=
  s' = { s with control.queue := s'.control.queue, control.lost := s'.control.lost, control.readback := s'.control.readback }

theorem Raised.refl (s : State) : Raised s s := rfl

theorem Raised.trans {a b c : State} (h : Raised a b) (k : Raised b c) : Raised a c := by
  unfold Raised at *
  rw [k, h]

theorem queueChunk_raised (rb : Readback) (s : State) : Raised s (queueChunk rb s) := rfl

theorem chunkLeft_raised (s : State) : Raised s (chunkLeft s) := by
  unfold chunkLeft
  split
  · rfl
  · split
    · rfl
    · exact queueChunk_raised _ _

/-- Everything raising a report can do outside the queue. -/
theorem raise_raised (k : ReportKind) (topic item : Nat) (p : List Byte) (s : State) : Raised s (raise k topic item p s) := by
  unfold raise
  dsimp only
  split
  · refine Raised.trans ?_ (chunkLeft_raised _)
    rfl
  · rfl

theorem raiseEvent_raised (e : EventTopic) (item : Nat) (p : List Byte) (s : State) : Raised s (raiseEvent e item p s) :=
  raise_raised _ _ _ _ _

theorem raiseStatus_raised (s : State) : Raised s (raiseStatus s) := raise_raised _ _ _ _ _

theorem raiseClock_raised (c : Fin 4) (k : Nat) (i : Time) (a b : Nat) (s : State) : Raised s (raiseClock c k i a b s) :=
  raise_raised _ _ _ _ _

theorem raiseRefusal_raised (o : Origin) (k : Nat) (r : Reason) (s : State) : Raised s (raiseRefusal o k r s) := by
  unfold raiseRefusal
  split <;> exact raise_raised _ _ _ _ _

end Sys2Proof.Machine
end

