-- ==== Sys2Proof/Laws/Frames.lean ====
section
/-! SUPPORT. One lemma for each field of the state that raising a report, a trigger or a pin leaves as it was, so that no later
proof unfolds those operations. -/

set_option Elab.async false

namespace Sys2Proof.Machine

theorem Raised.count {s u : State} (h : Raised s u) : u.count = s.count := by rw [h]
theorem Raised.inReset {s u : State} (h : Raised s u) : u.inReset = s.inReset := by rw [h]
theorem Raised.pins {s u : State} (h : Raised s u) : u.pins = s.pins := by rw [h]
theorem Raised.pgm {s u : State} (h : Raised s u) : u.pgm = s.pgm := by rw [h]
theorem Raised.iso {s u : State} (h : Raised s u) : u.iso = s.iso := by rw [h]
theorem Raised.timing {s u : State} (h : Raised s u) : u.timing = s.timing := by rw [h]
theorem Raised.active {s u : State} (h : Raised s u) : u.active = s.active := by rw [h]
theorem Raised.comp {s u : State} (h : Raised s u) : u.comp = s.comp := by rw [h]
theorem Raised.assets {s u : State} (h : Raised s u) : u.assets = s.assets := by rw [h]
theorem Raised.replay {s u : State} (h : Raised s u) : u.replay = s.replay := by rw [h]
theorem Raised.clocks {s u : State} (h : Raised s u) : u.clocks = s.clocks := by rw [h]
theorem Raised.score {s u : State} (h : Raised s u) : u.score = s.score := by rw [h]
theorem Raised.sponsor {s u : State} (h : Raised s u) : u.sponsor = s.sponsor := by rw [h]
theorem Raised.msgs {s u : State} (h : Raised s u) : u.msgs = s.msgs := by rw [h]
theorem Raised.cues {s u : State} (h : Raised s u) : u.cues = s.cues := by rw [h]
theorem Raised.pending {s u : State} (h : Raised s u) : u.pending = s.pending := by rw [h]
theorem Raised.control_health {s u : State} (h : Raised s u) : u.control.health = s.control.health := by rw [h]
theorem Raised.control_loads {s u : State} (h : Raised s u) : u.control.loads = s.control.loads := by rw [h]
theorem Raised.control_unattended {s u : State} (h : Raised s u) : u.control.unattended = s.control.unattended := by rw [h]
theorem Raised.control_unattendedTimer {s u : State} (h : Raised s u) : u.control.unattendedTimer = s.control.unattendedTimer := by rw [h]
theorem Raised.control_statusCount {s u : State} (h : Raised s u) : u.control.statusCount = s.control.statusCount := by rw [h]
theorem Raised.control_sent {s u : State} (h : Raised s u) : u.control.sent = s.control.sent := by rw [h]

/-! ### raise -/

@[simp] theorem raise_count (k : ReportKind) (a b : Nat) (p : List Byte) (s : State) : (raise k a b p s).count = s.count := (raise_raised _ _ _ _ _).count
@[simp] theorem raise_inReset (k : ReportKind) (a b : Nat) (p : List Byte) (s : State) : (raise k a b p s).inReset = s.inReset := (raise_raised _ _ _ _ _).inReset
@[simp] theorem raise_pins (k : ReportKind) (a b : Nat) (p : List Byte) (s : State) : (raise k a b p s).pins = s.pins := (raise_raised _ _ _ _ _).pins
@[simp] theorem raise_pgm (k : ReportKind) (a b : Nat) (p : List Byte) (s : State) : (raise k a b p s).pgm = s.pgm := (raise_raised _ _ _ _ _).pgm
@[simp] theorem raise_iso (k : ReportKind) (a b : Nat) (p : List Byte) (s : State) : (raise k a b p s).iso = s.iso := (raise_raised _ _ _ _ _).iso
@[simp] theorem raise_timing (k : ReportKind) (a b : Nat) (p : List Byte) (s : State) : (raise k a b p s).timing = s.timing := (raise_raised _ _ _ _ _).timing
@[simp] theorem raise_active (k : ReportKind) (a b : Nat) (p : List Byte) (s : State) : (raise k a b p s).active = s.active := (raise_raised _ _ _ _ _).active
@[simp] theorem raise_comp (k : ReportKind) (a b : Nat) (p : List Byte) (s : State) : (raise k a b p s).comp = s.comp := (raise_raised _ _ _ _ _).comp
@[simp] theorem raise_assets (k : ReportKind) (a b : Nat) (p : List Byte) (s : State) : (raise k a b p s).assets = s.assets := (raise_raised _ _ _ _ _).assets
@[simp] theorem raise_replay (k : ReportKind) (a b : Nat) (p : List Byte) (s : State) : (raise k a b p s).replay = s.replay := (raise_raised _ _ _ _ _).replay
@[simp] theorem raise_clocks (k : ReportKind) (a b : Nat) (p : List Byte) (s : State) : (raise k a b p s).clocks = s.clocks := (raise_raised _ _ _ _ _).clocks
@[simp] theorem raise_score (k : ReportKind) (a b : Nat) (p : List Byte) (s : State) : (raise k a b p s).score = s.score := (raise_raised _ _ _ _ _).score
@[simp] theorem raise_sponsor (k : ReportKind) (a b : Nat) (p : List Byte) (s : State) : (raise k a b p s).sponsor = s.sponsor := (raise_raised _ _ _ _ _).sponsor
@[simp] theorem raise_msgs (k : ReportKind) (a b : Nat) (p : List Byte) (s : State) : (raise k a b p s).msgs = s.msgs := (raise_raised _ _ _ _ _).msgs
@[simp] theorem raise_cues (k : ReportKind) (a b : Nat) (p : List Byte) (s : State) : (raise k a b p s).cues = s.cues := (raise_raised _ _ _ _ _).cues
@[simp] theorem raise_pending (k : ReportKind) (a b : Nat) (p : List Byte) (s : State) : (raise k a b p s).pending = s.pending := (raise_raised _ _ _ _ _).pending
@[simp] theorem raise_control_health (k : ReportKind) (a b : Nat) (p : List Byte) (s : State) :
    (raise k a b p s).control.health = s.control.health := (raise_raised _ _ _ _ _).control_health
@[simp] theorem raise_control_loads (k : ReportKind) (a b : Nat) (p : List Byte) (s : State) :
    (raise k a b p s).control.loads = s.control.loads := (raise_raised _ _ _ _ _).control_loads
@[simp] theorem raise_control_unattended (k : ReportKind) (a b : Nat) (p : List Byte) (s : State) :
    (raise k a b p s).control.unattended = s.control.unattended := (raise_raised _ _ _ _ _).control_unattended
@[simp] theorem raise_control_unattendedTimer (k : ReportKind) (a b : Nat) (p : List Byte) (s : State) :
    (raise k a b p s).control.unattendedTimer = s.control.unattendedTimer := (raise_raised _ _ _ _ _).control_unattendedTimer
@[simp] theorem raise_control_statusCount (k : ReportKind) (a b : Nat) (p : List Byte) (s : State) :
    (raise k a b p s).control.statusCount = s.control.statusCount := (raise_raised _ _ _ _ _).control_statusCount
@[simp] theorem raise_control_sent (k : ReportKind) (a b : Nat) (p : List Byte) (s : State) :
    (raise k a b p s).control.sent = s.control.sent := (raise_raised _ _ _ _ _).control_sent

/-! ### raiseEvent -/

@[simp] theorem raiseEvent_count (e : EventTopic) (a : Nat) (p : List Byte) (s : State) : (raiseEvent e a p s).count = s.count := (raiseEvent_raised _ _ _ _).count
@[simp] theorem raiseEvent_inReset (e : EventTopic) (a : Nat) (p : List Byte) (s : State) : (raiseEvent e a p s).inReset = s.inReset := (raiseEvent_raised _ _ _ _).inReset
@[simp] theorem raiseEvent_pins (e : EventTopic) (a : Nat) (p : List Byte) (s : State) : (raiseEvent e a p s).pins = s.pins := (raiseEvent_raised _ _ _ _).pins
@[simp] theorem raiseEvent_pgm (e : EventTopic) (a : Nat) (p : List Byte) (s : State) : (raiseEvent e a p s).pgm = s.pgm := (raiseEvent_raised _ _ _ _).pgm
@[simp] theorem raiseEvent_iso (e : EventTopic) (a : Nat) (p : List Byte) (s : State) : (raiseEvent e a p s).iso = s.iso := (raiseEvent_raised _ _ _ _).iso
@[simp] theorem raiseEvent_timing (e : EventTopic) (a : Nat) (p : List Byte) (s : State) : (raiseEvent e a p s).timing = s.timing := (raiseEvent_raised _ _ _ _).timing
@[simp] theorem raiseEvent_active (e : EventTopic) (a : Nat) (p : List Byte) (s : State) : (raiseEvent e a p s).active = s.active := (raiseEvent_raised _ _ _ _).active
@[simp] theorem raiseEvent_comp (e : EventTopic) (a : Nat) (p : List Byte) (s : State) : (raiseEvent e a p s).comp = s.comp := (raiseEvent_raised _ _ _ _).comp
@[simp] theorem raiseEvent_assets (e : EventTopic) (a : Nat) (p : List Byte) (s : State) : (raiseEvent e a p s).assets = s.assets := (raiseEvent_raised _ _ _ _).assets
@[simp] theorem raiseEvent_replay (e : EventTopic) (a : Nat) (p : List Byte) (s : State) : (raiseEvent e a p s).replay = s.replay := (raiseEvent_raised _ _ _ _).replay
@[simp] theorem raiseEvent_clocks (e : EventTopic) (a : Nat) (p : List Byte) (s : State) : (raiseEvent e a p s).clocks = s.clocks := (raiseEvent_raised _ _ _ _).clocks
@[simp] theorem raiseEvent_score (e : EventTopic) (a : Nat) (p : List Byte) (s : State) : (raiseEvent e a p s).score = s.score := (raiseEvent_raised _ _ _ _).score
@[simp] theorem raiseEvent_sponsor (e : EventTopic) (a : Nat) (p : List Byte) (s : State) : (raiseEvent e a p s).sponsor = s.sponsor := (raiseEvent_raised _ _ _ _).sponsor
@[simp] theorem raiseEvent_msgs (e : EventTopic) (a : Nat) (p : List Byte) (s : State) : (raiseEvent e a p s).msgs = s.msgs := (raiseEvent_raised _ _ _ _).msgs
@[simp] theorem raiseEvent_cues (e : EventTopic) (a : Nat) (p : List Byte) (s : State) : (raiseEvent e a p s).cues = s.cues := (raiseEvent_raised _ _ _ _).cues
@[simp] theorem raiseEvent_pending (e : EventTopic) (a : Nat) (p : List Byte) (s : State) : (raiseEvent e a p s).pending = s.pending := (raiseEvent_raised _ _ _ _).pending
@[simp] theorem raiseEvent_control_health (e : EventTopic) (a : Nat) (p : List Byte) (s : State) :
    (raiseEvent e a p s).control.health = s.control.health := (raiseEvent_raised _ _ _ _).control_health
@[simp] theorem raiseEvent_control_loads (e : EventTopic) (a : Nat) (p : List Byte) (s : State) :
    (raiseEvent e a p s).control.loads = s.control.loads := (raiseEvent_raised _ _ _ _).control_loads
@[simp] theorem raiseEvent_control_unattended (e : EventTopic) (a : Nat) (p : List Byte) (s : State) :
    (raiseEvent e a p s).control.unattended = s.control.unattended := (raiseEvent_raised _ _ _ _).control_unattended
@[simp] theorem raiseEvent_control_unattendedTimer (e : EventTopic) (a : Nat) (p : List Byte) (s : State) :
    (raiseEvent e a p s).control.unattendedTimer = s.control.unattendedTimer := (raiseEvent_raised _ _ _ _).control_unattendedTimer
@[simp] theorem raiseEvent_control_statusCount (e : EventTopic) (a : Nat) (p : List Byte) (s : State) :
    (raiseEvent e a p s).control.statusCount = s.control.statusCount := (raiseEvent_raised _ _ _ _).control_statusCount
@[simp] theorem raiseEvent_control_sent (e : EventTopic) (a : Nat) (p : List Byte) (s : State) :
    (raiseEvent e a p s).control.sent = s.control.sent := (raiseEvent_raised _ _ _ _).control_sent

/-! ### raiseStatus -/

@[simp] theorem raiseStatus_count (s : State) : (raiseStatus s).count = s.count := (raiseStatus_raised _).count
@[simp] theorem raiseStatus_inReset (s : State) : (raiseStatus s).inReset = s.inReset := (raiseStatus_raised _).inReset
@[simp] theorem raiseStatus_pins (s : State) : (raiseStatus s).pins = s.pins := (raiseStatus_raised _).pins
@[simp] theorem raiseStatus_pgm (s : State) : (raiseStatus s).pgm = s.pgm := (raiseStatus_raised _).pgm
@[simp] theorem raiseStatus_iso (s : State) : (raiseStatus s).iso = s.iso := (raiseStatus_raised _).iso
@[simp] theorem raiseStatus_timing (s : State) : (raiseStatus s).timing = s.timing := (raiseStatus_raised _).timing
@[simp] theorem raiseStatus_active (s : State) : (raiseStatus s).active = s.active := (raiseStatus_raised _).active
@[simp] theorem raiseStatus_comp (s : State) : (raiseStatus s).comp = s.comp := (raiseStatus_raised _).comp
@[simp] theorem raiseStatus_assets (s : State) : (raiseStatus s).assets = s.assets := (raiseStatus_raised _).assets
@[simp] theorem raiseStatus_replay (s : State) : (raiseStatus s).replay = s.replay := (raiseStatus_raised _).replay
@[simp] theorem raiseStatus_clocks (s : State) : (raiseStatus s).clocks = s.clocks := (raiseStatus_raised _).clocks
@[simp] theorem raiseStatus_score (s : State) : (raiseStatus s).score = s.score := (raiseStatus_raised _).score
@[simp] theorem raiseStatus_sponsor (s : State) : (raiseStatus s).sponsor = s.sponsor := (raiseStatus_raised _).sponsor
@[simp] theorem raiseStatus_msgs (s : State) : (raiseStatus s).msgs = s.msgs := (raiseStatus_raised _).msgs
@[simp] theorem raiseStatus_cues (s : State) : (raiseStatus s).cues = s.cues := (raiseStatus_raised _).cues
@[simp] theorem raiseStatus_pending (s : State) : (raiseStatus s).pending = s.pending := (raiseStatus_raised _).pending
@[simp] theorem raiseStatus_control_health (s : State) :
    (raiseStatus s).control.health = s.control.health := (raiseStatus_raised _).control_health
@[simp] theorem raiseStatus_control_loads (s : State) :
    (raiseStatus s).control.loads = s.control.loads := (raiseStatus_raised _).control_loads
@[simp] theorem raiseStatus_control_unattended (s : State) :
    (raiseStatus s).control.unattended = s.control.unattended := (raiseStatus_raised _).control_unattended
@[simp] theorem raiseStatus_control_unattendedTimer (s : State) :
    (raiseStatus s).control.unattendedTimer = s.control.unattendedTimer := (raiseStatus_raised _).control_unattendedTimer
@[simp] theorem raiseStatus_control_statusCount (s : State) :
    (raiseStatus s).control.statusCount = s.control.statusCount := (raiseStatus_raised _).control_statusCount
@[simp] theorem raiseStatus_control_sent (s : State) :
    (raiseStatus s).control.sent = s.control.sent := (raiseStatus_raised _).control_sent

/-! ### raiseClock -/

@[simp] theorem raiseClock_count (c : Fin 4) (k : Nat) (i : Time) (a b : Nat) (s : State) : (raiseClock c k i a b s).count = s.count := (raiseClock_raised _ _ _ _ _ _).count
@[simp] theorem raiseClock_inReset (c : Fin 4) (k : Nat) (i : Time) (a b : Nat) (s : State) : (raiseClock c k i a b s).inReset = s.inReset := (raiseClock_raised _ _ _ _ _ _).inReset
@[simp] theorem raiseClock_pins (c : Fin 4) (k : Nat) (i : Time) (a b : Nat) (s : State) : (raiseClock c k i a b s).pins = s.pins := (raiseClock_raised _ _ _ _ _ _).pins
@[simp] theorem raiseClock_pgm (c : Fin 4) (k : Nat) (i : Time) (a b : Nat) (s : State) : (raiseClock c k i a b s).pgm = s.pgm := (raiseClock_raised _ _ _ _ _ _).pgm
@[simp] theorem raiseClock_iso (c : Fin 4) (k : Nat) (i : Time) (a b : Nat) (s : State) : (raiseClock c k i a b s).iso = s.iso := (raiseClock_raised _ _ _ _ _ _).iso
@[simp] theorem raiseClock_timing (c : Fin 4) (k : Nat) (i : Time) (a b : Nat) (s : State) : (raiseClock c k i a b s).timing = s.timing := (raiseClock_raised _ _ _ _ _ _).timing
@[simp] theorem raiseClock_active (c : Fin 4) (k : Nat) (i : Time) (a b : Nat) (s : State) : (raiseClock c k i a b s).active = s.active := (raiseClock_raised _ _ _ _ _ _).active
@[simp] theorem raiseClock_comp (c : Fin 4) (k : Nat) (i : Time) (a b : Nat) (s : State) : (raiseClock c k i a b s).comp = s.comp := (raiseClock_raised _ _ _ _ _ _).comp
@[simp] theorem raiseClock_assets (c : Fin 4) (k : Nat) (i : Time) (a b : Nat) (s : State) : (raiseClock c k i a b s).assets = s.assets := (raiseClock_raised _ _ _ _ _ _).assets
@[simp] theorem raiseClock_replay (c : Fin 4) (k : Nat) (i : Time) (a b : Nat) (s : State) : (raiseClock c k i a b s).replay = s.replay := (raiseClock_raised _ _ _ _ _ _).replay
@[simp] theorem raiseClock_clocks (c : Fin 4) (k : Nat) (i : Time) (a b : Nat) (s : State) : (raiseClock c k i a b s).clocks = s.clocks := (raiseClock_raised _ _ _ _ _ _).clocks
@[simp] theorem raiseClock_score (c : Fin 4) (k : Nat) (i : Time) (a b : Nat) (s : State) : (raiseClock c k i a b s).score = s.score := (raiseClock_raised _ _ _ _ _ _).score
@[simp] theorem raiseClock_sponsor (c : Fin 4) (k : Nat) (i : Time) (a b : Nat) (s : State) : (raiseClock c k i a b s).sponsor = s.sponsor := (raiseClock_raised _ _ _ _ _ _).sponsor
@[simp] theorem raiseClock_msgs (c : Fin 4) (k : Nat) (i : Time) (a b : Nat) (s : State) : (raiseClock c k i a b s).msgs = s.msgs := (raiseClock_raised _ _ _ _ _ _).msgs
@[simp] theorem raiseClock_cues (c : Fin 4) (k : Nat) (i : Time) (a b : Nat) (s : State) : (raiseClock c k i a b s).cues = s.cues := (raiseClock_raised _ _ _ _ _ _).cues
@[simp] theorem raiseClock_pending (c : Fin 4) (k : Nat) (i : Time) (a b : Nat) (s : State) : (raiseClock c k i a b s).pending = s.pending := (raiseClock_raised _ _ _ _ _ _).pending
@[simp] theorem raiseClock_control_health (c : Fin 4) (k : Nat) (i : Time) (a b : Nat) (s : State) :
    (raiseClock c k i a b s).control.health = s.control.health := (raiseClock_raised _ _ _ _ _ _).control_health
@[simp] theorem raiseClock_control_loads (c : Fin 4) (k : Nat) (i : Time) (a b : Nat) (s : State) :
    (raiseClock c k i a b s).control.loads = s.control.loads := (raiseClock_raised _ _ _ _ _ _).control_loads
@[simp] theorem raiseClock_control_unattended (c : Fin 4) (k : Nat) (i : Time) (a b : Nat) (s : State) :
    (raiseClock c k i a b s).control.unattended = s.control.unattended := (raiseClock_raised _ _ _ _ _ _).control_unattended
@[simp] theorem raiseClock_control_unattendedTimer (c : Fin 4) (k : Nat) (i : Time) (a b : Nat) (s : State) :
    (raiseClock c k i a b s).control.unattendedTimer = s.control.unattendedTimer := (raiseClock_raised _ _ _ _ _ _).control_unattendedTimer
@[simp] theorem raiseClock_control_statusCount (c : Fin 4) (k : Nat) (i : Time) (a b : Nat) (s : State) :
    (raiseClock c k i a b s).control.statusCount = s.control.statusCount := (raiseClock_raised _ _ _ _ _ _).control_statusCount
@[simp] theorem raiseClock_control_sent (c : Fin 4) (k : Nat) (i : Time) (a b : Nat) (s : State) :
    (raiseClock c k i a b s).control.sent = s.control.sent := (raiseClock_raised _ _ _ _ _ _).control_sent

/-! ### raiseRefusal -/

@[simp] theorem raiseRefusal_count (o : Origin) (k : Nat) (r : Reason) (s : State) : (raiseRefusal o k r s).count = s.count := (raiseRefusal_raised _ _ _ _).count
@[simp] theorem raiseRefusal_inReset (o : Origin) (k : Nat) (r : Reason) (s : State) : (raiseRefusal o k r s).inReset = s.inReset := (raiseRefusal_raised _ _ _ _).inReset
@[simp] theorem raiseRefusal_pins (o : Origin) (k : Nat) (r : Reason) (s : State) : (raiseRefusal o k r s).pins = s.pins := (raiseRefusal_raised _ _ _ _).pins
@[simp] theorem raiseRefusal_pgm (o : Origin) (k : Nat) (r : Reason) (s : State) : (raiseRefusal o k r s).pgm = s.pgm := (raiseRefusal_raised _ _ _ _).pgm
@[simp] theorem raiseRefusal_iso (o : Origin) (k : Nat) (r : Reason) (s : State) : (raiseRefusal o k r s).iso = s.iso := (raiseRefusal_raised _ _ _ _).iso
@[simp] theorem raiseRefusal_timing (o : Origin) (k : Nat) (r : Reason) (s : State) : (raiseRefusal o k r s).timing = s.timing := (raiseRefusal_raised _ _ _ _).timing
@[simp] theorem raiseRefusal_active (o : Origin) (k : Nat) (r : Reason) (s : State) : (raiseRefusal o k r s).active = s.active := (raiseRefusal_raised _ _ _ _).active
@[simp] theorem raiseRefusal_comp (o : Origin) (k : Nat) (r : Reason) (s : State) : (raiseRefusal o k r s).comp = s.comp := (raiseRefusal_raised _ _ _ _).comp
@[simp] theorem raiseRefusal_assets (o : Origin) (k : Nat) (r : Reason) (s : State) : (raiseRefusal o k r s).assets = s.assets := (raiseRefusal_raised _ _ _ _).assets
@[simp] theorem raiseRefusal_replay (o : Origin) (k : Nat) (r : Reason) (s : State) : (raiseRefusal o k r s).replay = s.replay := (raiseRefusal_raised _ _ _ _).replay
@[simp] theorem raiseRefusal_clocks (o : Origin) (k : Nat) (r : Reason) (s : State) : (raiseRefusal o k r s).clocks = s.clocks := (raiseRefusal_raised _ _ _ _).clocks
@[simp] theorem raiseRefusal_score (o : Origin) (k : Nat) (r : Reason) (s : State) : (raiseRefusal o k r s).score = s.score := (raiseRefusal_raised _ _ _ _).score
@[simp] theorem raiseRefusal_sponsor (o : Origin) (k : Nat) (r : Reason) (s : State) : (raiseRefusal o k r s).sponsor = s.sponsor := (raiseRefusal_raised _ _ _ _).sponsor
@[simp] theorem raiseRefusal_msgs (o : Origin) (k : Nat) (r : Reason) (s : State) : (raiseRefusal o k r s).msgs = s.msgs := (raiseRefusal_raised _ _ _ _).msgs
@[simp] theorem raiseRefusal_cues (o : Origin) (k : Nat) (r : Reason) (s : State) : (raiseRefusal o k r s).cues = s.cues := (raiseRefusal_raised _ _ _ _).cues
@[simp] theorem raiseRefusal_pending (o : Origin) (k : Nat) (r : Reason) (s : State) : (raiseRefusal o k r s).pending = s.pending := (raiseRefusal_raised _ _ _ _).pending
@[simp] theorem raiseRefusal_control_health (o : Origin) (k : Nat) (r : Reason) (s : State) :
    (raiseRefusal o k r s).control.health = s.control.health := (raiseRefusal_raised _ _ _ _).control_health
@[simp] theorem raiseRefusal_control_loads (o : Origin) (k : Nat) (r : Reason) (s : State) :
    (raiseRefusal o k r s).control.loads = s.control.loads := (raiseRefusal_raised _ _ _ _).control_loads
@[simp] theorem raiseRefusal_control_unattended (o : Origin) (k : Nat) (r : Reason) (s : State) :
    (raiseRefusal o k r s).control.unattended = s.control.unattended := (raiseRefusal_raised _ _ _ _).control_unattended
@[simp] theorem raiseRefusal_control_unattendedTimer (o : Origin) (k : Nat) (r : Reason) (s : State) :
    (raiseRefusal o k r s).control.unattendedTimer = s.control.unattendedTimer := (raiseRefusal_raised _ _ _ _).control_unattendedTimer
@[simp] theorem raiseRefusal_control_statusCount (o : Origin) (k : Nat) (r : Reason) (s : State) :
    (raiseRefusal o k r s).control.statusCount = s.control.statusCount := (raiseRefusal_raised _ _ _ _).control_statusCount
@[simp] theorem raiseRefusal_control_sent (o : Origin) (k : Nat) (r : Reason) (s : State) :
    (raiseRefusal o k r s).control.sent = s.control.sent := (raiseRefusal_raised _ _ _ _).control_sent

/-! ### queueChunk -/

@[simp] theorem queueChunk_count (rb : Readback) (s : State) : (queueChunk rb s).count = s.count := (queueChunk_raised _ _).count
@[simp] theorem queueChunk_inReset (rb : Readback) (s : State) : (queueChunk rb s).inReset = s.inReset := (queueChunk_raised _ _).inReset
@[simp] theorem queueChunk_pins (rb : Readback) (s : State) : (queueChunk rb s).pins = s.pins := (queueChunk_raised _ _).pins
@[simp] theorem queueChunk_pgm (rb : Readback) (s : State) : (queueChunk rb s).pgm = s.pgm := (queueChunk_raised _ _).pgm
@[simp] theorem queueChunk_iso (rb : Readback) (s : State) : (queueChunk rb s).iso = s.iso := (queueChunk_raised _ _).iso
@[simp] theorem queueChunk_timing (rb : Readback) (s : State) : (queueChunk rb s).timing = s.timing := (queueChunk_raised _ _).timing
@[simp] theorem queueChunk_active (rb : Readback) (s : State) : (queueChunk rb s).active = s.active := (queueChunk_raised _ _).active
@[simp] theorem queueChunk_comp (rb : Readback) (s : State) : (queueChunk rb s).comp = s.comp := (queueChunk_raised _ _).comp
@[simp] theorem queueChunk_assets (rb : Readback) (s : State) : (queueChunk rb s).assets = s.assets := (queueChunk_raised _ _).assets
@[simp] theorem queueChunk_replay (rb : Readback) (s : State) : (queueChunk rb s).replay = s.replay := (queueChunk_raised _ _).replay
@[simp] theorem queueChunk_clocks (rb : Readback) (s : State) : (queueChunk rb s).clocks = s.clocks := (queueChunk_raised _ _).clocks
@[simp] theorem queueChunk_score (rb : Readback) (s : State) : (queueChunk rb s).score = s.score := (queueChunk_raised _ _).score
@[simp] theorem queueChunk_sponsor (rb : Readback) (s : State) : (queueChunk rb s).sponsor = s.sponsor := (queueChunk_raised _ _).sponsor
@[simp] theorem queueChunk_msgs (rb : Readback) (s : State) : (queueChunk rb s).msgs = s.msgs := (queueChunk_raised _ _).msgs
@[simp] theorem queueChunk_cues (rb : Readback) (s : State) : (queueChunk rb s).cues = s.cues := (queueChunk_raised _ _).cues
@[simp] theorem queueChunk_pending (rb : Readback) (s : State) : (queueChunk rb s).pending = s.pending := (queueChunk_raised _ _).pending
@[simp] theorem queueChunk_control_health (rb : Readback) (s : State) :
    (queueChunk rb s).control.health = s.control.health := (queueChunk_raised _ _).control_health
@[simp] theorem queueChunk_control_loads (rb : Readback) (s : State) :
    (queueChunk rb s).control.loads = s.control.loads := (queueChunk_raised _ _).control_loads
@[simp] theorem queueChunk_control_unattended (rb : Readback) (s : State) :
    (queueChunk rb s).control.unattended = s.control.unattended := (queueChunk_raised _ _).control_unattended
@[simp] theorem queueChunk_control_unattendedTimer (rb : Readback) (s : State) :
    (queueChunk rb s).control.unattendedTimer = s.control.unattendedTimer := (queueChunk_raised _ _).control_unattendedTimer
@[simp] theorem queueChunk_control_statusCount (rb : Readback) (s : State) :
    (queueChunk rb s).control.statusCount = s.control.statusCount := (queueChunk_raised _ _).control_statusCount
@[simp] theorem queueChunk_control_sent (rb : Readback) (s : State) :
    (queueChunk rb s).control.sent = s.control.sent := (queueChunk_raised _ _).control_sent

/-! ### chunkLeft -/

@[simp] theorem chunkLeft_count (s : State) : (chunkLeft s).count = s.count := (chunkLeft_raised _).count
@[simp] theorem chunkLeft_inReset (s : State) : (chunkLeft s).inReset = s.inReset := (chunkLeft_raised _).inReset
@[simp] theorem chunkLeft_pins (s : State) : (chunkLeft s).pins = s.pins := (chunkLeft_raised _).pins
@[simp] theorem chunkLeft_pgm (s : State) : (chunkLeft s).pgm = s.pgm := (chunkLeft_raised _).pgm
@[simp] theorem chunkLeft_iso (s : State) : (chunkLeft s).iso = s.iso := (chunkLeft_raised _).iso
@[simp] theorem chunkLeft_timing (s : State) : (chunkLeft s).timing = s.timing := (chunkLeft_raised _).timing
@[simp] theorem chunkLeft_active (s : State) : (chunkLeft s).active = s.active := (chunkLeft_raised _).active
@[simp] theorem chunkLeft_comp (s : State) : (chunkLeft s).comp = s.comp := (chunkLeft_raised _).comp
@[simp] theorem chunkLeft_assets (s : State) : (chunkLeft s).assets = s.assets := (chunkLeft_raised _).assets
@[simp] theorem chunkLeft_replay (s : State) : (chunkLeft s).replay = s.replay := (chunkLeft_raised _).replay
@[simp] theorem chunkLeft_clocks (s : State) : (chunkLeft s).clocks = s.clocks := (chunkLeft_raised _).clocks
@[simp] theorem chunkLeft_score (s : State) : (chunkLeft s).score = s.score := (chunkLeft_raised _).score
@[simp] theorem chunkLeft_sponsor (s : State) : (chunkLeft s).sponsor = s.sponsor := (chunkLeft_raised _).sponsor
@[simp] theorem chunkLeft_msgs (s : State) : (chunkLeft s).msgs = s.msgs := (chunkLeft_raised _).msgs
@[simp] theorem chunkLeft_cues (s : State) : (chunkLeft s).cues = s.cues := (chunkLeft_raised _).cues
@[simp] theorem chunkLeft_pending (s : State) : (chunkLeft s).pending = s.pending := (chunkLeft_raised _).pending
@[simp] theorem chunkLeft_control_health (s : State) :
    (chunkLeft s).control.health = s.control.health := (chunkLeft_raised _).control_health
@[simp] theorem chunkLeft_control_loads (s : State) :
    (chunkLeft s).control.loads = s.control.loads := (chunkLeft_raised _).control_loads
@[simp] theorem chunkLeft_control_unattended (s : State) :
    (chunkLeft s).control.unattended = s.control.unattended := (chunkLeft_raised _).control_unattended
@[simp] theorem chunkLeft_control_unattendedTimer (s : State) :
    (chunkLeft s).control.unattendedTimer = s.control.unattendedTimer := (chunkLeft_raised _).control_unattendedTimer
@[simp] theorem chunkLeft_control_statusCount (s : State) :
    (chunkLeft s).control.statusCount = s.control.statusCount := (chunkLeft_raised _).control_statusCount
@[simp] theorem chunkLeft_control_sent (s : State) :
    (chunkLeft s).control.sent = s.control.sent := (chunkLeft_raised _).control_sent

/-! ### raiseTrigger -/

@[simp] theorem raiseTrigger_count (h : Time) (e : TriggerEvent) (s : State) : (raiseTrigger h e s).count = s.count := rfl
@[simp] theorem raiseTrigger_inReset (h : Time) (e : TriggerEvent) (s : State) : (raiseTrigger h e s).inReset = s.inReset := rfl
@[simp] theorem raiseTrigger_pins (h : Time) (e : TriggerEvent) (s : State) : (raiseTrigger h e s).pins = s.pins := rfl
@[simp] theorem raiseTrigger_pgm (h : Time) (e : TriggerEvent) (s : State) : (raiseTrigger h e s).pgm = s.pgm := rfl
@[simp] theorem raiseTrigger_iso (h : Time) (e : TriggerEvent) (s : State) : (raiseTrigger h e s).iso = s.iso := rfl
@[simp] theorem raiseTrigger_timing (h : Time) (e : TriggerEvent) (s : State) : (raiseTrigger h e s).timing = s.timing := rfl
@[simp] theorem raiseTrigger_control (h : Time) (e : TriggerEvent) (s : State) : (raiseTrigger h e s).control = s.control := rfl
@[simp] theorem raiseTrigger_active (h : Time) (e : TriggerEvent) (s : State) : (raiseTrigger h e s).active = s.active := rfl
@[simp] theorem raiseTrigger_comp (h : Time) (e : TriggerEvent) (s : State) : (raiseTrigger h e s).comp = s.comp := rfl
@[simp] theorem raiseTrigger_assets (h : Time) (e : TriggerEvent) (s : State) : (raiseTrigger h e s).assets = s.assets := rfl
@[simp] theorem raiseTrigger_replay (h : Time) (e : TriggerEvent) (s : State) : (raiseTrigger h e s).replay = s.replay := rfl
@[simp] theorem raiseTrigger_clocks (h : Time) (e : TriggerEvent) (s : State) : (raiseTrigger h e s).clocks = s.clocks := rfl
@[simp] theorem raiseTrigger_score (h : Time) (e : TriggerEvent) (s : State) : (raiseTrigger h e s).score = s.score := rfl
@[simp] theorem raiseTrigger_sponsor (h : Time) (e : TriggerEvent) (s : State) : (raiseTrigger h e s).sponsor = s.sponsor := rfl
@[simp] theorem raiseTrigger_msgs (h : Time) (e : TriggerEvent) (s : State) : (raiseTrigger h e s).msgs = s.msgs := rfl
@[simp] theorem raiseTrigger_pending (h : Time) (e : TriggerEvent) (s : State) : (raiseTrigger h e s).pending = s.pending := rfl
@[simp] theorem raiseTrigger_cues (h : Time) (e : TriggerEvent) (s : State) : (raiseTrigger h e s).cues =
    { s.cues with pendingTriggers := s.cues.pendingTriggers ++ [⟨h, e⟩] } := rfl

/-! ### hornRequest -/

@[simp] theorem hornRequest_count (h : Time) (q : HornRequest) (s : State) : (hornRequest h q s).count = s.count := by
  unfold hornRequest; split <;> rfl
@[simp] theorem hornRequest_inReset (h : Time) (q : HornRequest) (s : State) : (hornRequest h q s).inReset = s.inReset := by
  unfold hornRequest; split <;> rfl
@[simp] theorem hornRequest_pins (h : Time) (q : HornRequest) (s : State) : (hornRequest h q s).pins = s.pins := by
  unfold hornRequest; split <;> rfl
@[simp] theorem hornRequest_pgm (h : Time) (q : HornRequest) (s : State) : (hornRequest h q s).pgm = s.pgm := by
  unfold hornRequest; split <;> rfl
@[simp] theorem hornRequest_iso (h : Time) (q : HornRequest) (s : State) : (hornRequest h q s).iso = s.iso := by
  unfold hornRequest; split <;> rfl
@[simp] theorem hornRequest_timing (h : Time) (q : HornRequest) (s : State) : (hornRequest h q s).timing = s.timing := by
  unfold hornRequest; split <;> rfl
@[simp] theorem hornRequest_control (h : Time) (q : HornRequest) (s : State) : (hornRequest h q s).control = s.control := by
  unfold hornRequest; split <;> rfl
@[simp] theorem hornRequest_active (h : Time) (q : HornRequest) (s : State) : (hornRequest h q s).active = s.active := by
  unfold hornRequest; split <;> rfl
@[simp] theorem hornRequest_comp (h : Time) (q : HornRequest) (s : State) : (hornRequest h q s).comp = s.comp := by
  unfold hornRequest; split <;> rfl
@[simp] theorem hornRequest_assets (h : Time) (q : HornRequest) (s : State) : (hornRequest h q s).assets = s.assets := by
  unfold hornRequest; split <;> rfl
@[simp] theorem hornRequest_replay (h : Time) (q : HornRequest) (s : State) : (hornRequest h q s).replay = s.replay := by
  unfold hornRequest; split <;> rfl
@[simp] theorem hornRequest_clocks (h : Time) (q : HornRequest) (s : State) : (hornRequest h q s).clocks = s.clocks := by
  unfold hornRequest; split <;> rfl
@[simp] theorem hornRequest_score (h : Time) (q : HornRequest) (s : State) : (hornRequest h q s).score = s.score := by
  unfold hornRequest; split <;> rfl
@[simp] theorem hornRequest_sponsor (h : Time) (q : HornRequest) (s : State) : (hornRequest h q s).sponsor = s.sponsor := by
  unfold hornRequest; split <;> rfl
@[simp] theorem hornRequest_msgs (h : Time) (q : HornRequest) (s : State) : (hornRequest h q s).msgs = s.msgs := by
  unfold hornRequest; split <;> rfl
@[simp] theorem hornRequest_pending (h : Time) (q : HornRequest) (s : State) : (hornRequest h q s).pending = s.pending := by
  unfold hornRequest; split <;> rfl
@[simp] theorem hornRequest_cues_lines (h : Time) (q : HornRequest) (s : State) : (hornRequest h q s).cues.lines = s.cues.lines := by
  unfold hornRequest; split <;> rfl
@[simp] theorem hornRequest_cues_records (h : Time) (q : HornRequest) (s : State) : (hornRequest h q s).cues.records = s.cues.records := by
  unfold hornRequest; split <;> rfl
@[simp] theorem hornRequest_cues_pendingTriggers (h : Time) (q : HornRequest) (s : State) : (hornRequest h q s).cues.pendingTriggers = s.cues.pendingTriggers := by
  unfold hornRequest; split <;> rfl

/-! ### takePin -/

@[simp] theorem takePin_count (id : AssetId) (s : State) : (takePin id s).count = s.count := by
  unfold takePin; dsimp only; split <;> rfl
@[simp] theorem takePin_inReset (id : AssetId) (s : State) : (takePin id s).inReset = s.inReset := by
  unfold takePin; dsimp only; split <;> rfl
@[simp] theorem takePin_pins (id : AssetId) (s : State) : (takePin id s).pins = s.pins := by
  unfold takePin; dsimp only; split <;> rfl
@[simp] theorem takePin_pgm (id : AssetId) (s : State) : (takePin id s).pgm = s.pgm := by
  unfold takePin; dsimp only; split <;> rfl
@[simp] theorem takePin_iso (id : AssetId) (s : State) : (takePin id s).iso = s.iso := by
  unfold takePin; dsimp only; split <;> rfl
@[simp] theorem takePin_timing (id : AssetId) (s : State) : (takePin id s).timing = s.timing := by
  unfold takePin; dsimp only; split <;> rfl
@[simp] theorem takePin_control (id : AssetId) (s : State) : (takePin id s).control = s.control := by
  unfold takePin; dsimp only; split <;> rfl
@[simp] theorem takePin_active (id : AssetId) (s : State) : (takePin id s).active = s.active := by
  unfold takePin; dsimp only; split <;> rfl
@[simp] theorem takePin_comp (id : AssetId) (s : State) : (takePin id s).comp = s.comp := by
  unfold takePin; dsimp only; split <;> rfl
@[simp] theorem takePin_replay (id : AssetId) (s : State) : (takePin id s).replay = s.replay := by
  unfold takePin; dsimp only; split <;> rfl
@[simp] theorem takePin_clocks (id : AssetId) (s : State) : (takePin id s).clocks = s.clocks := by
  unfold takePin; dsimp only; split <;> rfl
@[simp] theorem takePin_score (id : AssetId) (s : State) : (takePin id s).score = s.score := by
  unfold takePin; dsimp only; split <;> rfl
@[simp] theorem takePin_sponsor (id : AssetId) (s : State) : (takePin id s).sponsor = s.sponsor := by
  unfold takePin; dsimp only; split <;> rfl
@[simp] theorem takePin_msgs (id : AssetId) (s : State) : (takePin id s).msgs = s.msgs := by
  unfold takePin; dsimp only; split <;> rfl
@[simp] theorem takePin_cues (id : AssetId) (s : State) : (takePin id s).cues = s.cues := by
  unfold takePin; dsimp only; split <;> rfl
@[simp] theorem takePin_pending (id : AssetId) (s : State) : (takePin id s).pending = s.pending := by
  unfold takePin; dsimp only; split <;> rfl
@[simp] theorem takePin_assets_dram (id : AssetId) (s : State) : (takePin id s).assets.dram = s.assets.dram := by
  unfold takePin; dsimp only; split <;> rfl

/-! ### releasePin -/

@[simp] theorem releasePin_count (id : AssetId) (s : State) : (releasePin id s).count = s.count := by
  unfold releasePin; dsimp only; split <;> rfl
@[simp] theorem releasePin_inReset (id : AssetId) (s : State) : (releasePin id s).inReset = s.inReset := by
  unfold releasePin; dsimp only; split <;> rfl
@[simp] theorem releasePin_pins (id : AssetId) (s : State) : (releasePin id s).pins = s.pins := by
  unfold releasePin; dsimp only; split <;> rfl
@[simp] theorem releasePin_pgm (id : AssetId) (s : State) : (releasePin id s).pgm = s.pgm := by
  unfold releasePin; dsimp only; split <;> rfl
@[simp] theorem releasePin_iso (id : AssetId) (s : State) : (releasePin id s).iso = s.iso := by
  unfold releasePin; dsimp only; split <;> rfl
@[simp] theorem releasePin_timing (id : AssetId) (s : State) : (releasePin id s).timing = s.timing := by
  unfold releasePin; dsimp only; split <;> rfl
@[simp] theorem releasePin_control (id : AssetId) (s : State) : (releasePin id s).control = s.control := by
  unfold releasePin; dsimp only; split <;> rfl
@[simp] theorem releasePin_active (id : AssetId) (s : State) : (releasePin id s).active = s.active := by
  unfold releasePin; dsimp only; split <;> rfl
@[simp] theorem releasePin_comp (id : AssetId) (s : State) : (releasePin id s).comp = s.comp := by
  unfold releasePin; dsimp only; split <;> rfl
@[simp] theorem releasePin_replay (id : AssetId) (s : State) : (releasePin id s).replay = s.replay := by
  unfold releasePin; dsimp only; split <;> rfl
@[simp] theorem releasePin_clocks (id : AssetId) (s : State) : (releasePin id s).clocks = s.clocks := by
  unfold releasePin; dsimp only; split <;> rfl
@[simp] theorem releasePin_score (id : AssetId) (s : State) : (releasePin id s).score = s.score := by
  unfold releasePin; dsimp only; split <;> rfl
@[simp] theorem releasePin_sponsor (id : AssetId) (s : State) : (releasePin id s).sponsor = s.sponsor := by
  unfold releasePin; dsimp only; split <;> rfl
@[simp] theorem releasePin_msgs (id : AssetId) (s : State) : (releasePin id s).msgs = s.msgs := by
  unfold releasePin; dsimp only; split <;> rfl
@[simp] theorem releasePin_cues (id : AssetId) (s : State) : (releasePin id s).cues = s.cues := by
  unfold releasePin; dsimp only; split <;> rfl
@[simp] theorem releasePin_pending (id : AssetId) (s : State) : (releasePin id s).pending = s.pending := by
  unfold releasePin; dsimp only; split <;> rfl
@[simp] theorem releasePin_assets_dram (id : AssetId) (s : State) : (releasePin id s).assets.dram = s.assets.dram := by
  unfold releasePin; dsimp only; split <;> rfl

end Sys2Proof.Machine
end

