-- ==== Sys2Proof/Laws/Memory.lean ====
section
/-! SUPPORT. The stacked DRAM keeps its canonical form: addresses strictly rising, no byte 0 listed, all inside the DRAM. -/

set_option Elab.async false

namespace Sys2Proof.Machine

/-- The canonical form as a proposition. -/
theorem Dram.wf_iff (m : Dram) :
    m.wf = true ↔ (m.Pairwise fun a b => a.1 < b.1) ∧ ∀ c ∈ m, c.2 ≠ 0 ∧ c.1 < Config.dramBytes := by
  unfold Dram.wf
  simp

/-- The cells of stored bytes lie between the first and the last address stored to, and none holds 0. -/
theorem mem_dramCells {a : Nat} {bs : List Byte} {c : Host.Cell} (h : c ∈ dramCells a bs) :
    c.2 ≠ 0 ∧ a ≤ c.1 ∧ c.1 < a + bs.length := by
  induction bs generalizing a with
  | nil => simp [dramCells] at h
  | cons b bs ih =>
    unfold dramCells at h
    split at h
    · have := ih h
      simp only [List.length_cons]
      exact ⟨this.1, by omega, by omega⟩
    · rcases List.mem_cons.mp h with h | h
      · subst h
        exact ⟨by assumption, Nat.le_refl _, by simp⟩
      · have := ih h
        simp only [List.length_cons]
        exact ⟨this.1, by omega, by omega⟩

theorem dramCells_sorted (a : Nat) (bs : List Byte) : (dramCells a bs).Pairwise fun x y => x.1 < y.1 := by
  induction bs generalizing a with
  | nil => exact List.Pairwise.nil
  | cons b bs ih =>
    unfold dramCells
    split
    · exact ih _
    · exact List.Pairwise.cons (fun c h => by have := (mem_dramCells h).2.1; omega) (ih _)

/-- A store inside the DRAM keeps the canonical form. -/
theorem Dram.write_wf {m : Dram} {a : Nat} {bs : List Byte} (h : m.wf = true) (hb : a + bs.length ≤ Config.dramBytes) :
    (m.write a bs).wf = true := by
  rw [Dram.wf_iff] at h ⊢
  obtain ⟨hs, hc⟩ := h
  unfold Dram.write
  constructor
  · rw [List.pairwise_append, List.pairwise_append]
    refine ⟨⟨hs.filter _, dramCells_sorted a bs, ?_⟩, hs.filter _, ?_⟩
    · intro x hx y hy
      have h1 := (List.mem_filter.mp hx).2
      have h2 := (mem_dramCells hy).2.1
      simp only [decide_eq_true_eq] at h1
      omega
    · intro x hx y hy
      have h2 := (List.mem_filter.mp hy).2
      simp only [decide_eq_true_eq] at h2
      rcases List.mem_append.mp hx with hx | hx
      · have h1 := (List.mem_filter.mp hx).2
        simp only [decide_eq_true_eq] at h1
        omega
      · have h1 := (mem_dramCells hx).2.2
        omega
  · intro c hmem
    rcases List.mem_append.mp hmem with hmem | hmem
    · rcases List.mem_append.mp hmem with hmem | hmem
      · exact hc c (List.mem_filter.mp hmem).1
      · have := mem_dramCells hmem
        exact ⟨this.1, by omega⟩
    · exact hc c (List.mem_filter.mp hmem).1

/-- The DRAM of every device reset, `State.reset`'s included, is in canonical form: nothing is listed. -/
theorem released_dram_wf (p : Pins) : (State.released p).assets.dram.wf = true := by
  rw [Dram.wf_iff]
  exact ⟨List.Pairwise.nil, fun c h => by cases h⟩

theorem reset_dram_wf : State.reset.assets.dram.wf = true := released_dram_wf _

end Sys2Proof.Machine
end

