-- ==== Sys2Proof/Laws/PerInstr.lean ====
section
/-! SUPPORT. What holds of every command and event as syntax, one lemma for each constructor. -/

set_option Elab.async false

namespace Sys2Proof.Laws.Wf

open Machine

/-- A well-formed command's KIND is one of the 39 of the command table and its payload fits a control packet (R23); an event is
carried by no packet. -/
def Statement (i : Instr) : Prop :=
  i.wellFormed = true → ∀ k p, encodePayload i = some (k, p) → 1 ≤ k.code ∧ k.code ≤ 39 ∧ p.length ≤ Config.maxPayload

theorem deviceReset (pins : Pins) :
    Statement (.deviceReset pins) := by
  intro _ k p e
  cases e

theorem dramInitDone (t : Time) :
    Statement (.dramInitDone t) := by
  intro _ k p e
  cases e

theorem signalPresent (t : Time) (i : InputId) :
    Statement (.signalPresent t i) := by
  intro _ k p e
  cases e

theorem signalAbsent (t : Time) (i : InputId) :
    Statement (.signalAbsent t i) := by
  intro _ k p e
  cases e

theorem inputFrameStart (t : Time) (i : InputId) (f : InputFrame) :
    Statement (.inputFrameStart t i f) := by
  intro _ k p e
  cases e

theorem acquiringFrameTimeout (t : Time) (i : InputId) :
    Statement (.acquiringFrameTimeout t i) := by
  intro _ k p e
  cases e

theorem lockedFrameTimeout (t : Time) (i : InputId) :
    Statement (.lockedFrameTimeout t i) := by
  intro _ k p e
  cases e

theorem holdTimerExpiry (t : Time) (i : InputId) :
    Statement (.holdTimerExpiry t i) := by
  intro _ k p e
  cases e

theorem relockWindowExpiry (t : Time) :
    Statement (.relockWindowExpiry t) := by
  intro _ k p e
  cases e

theorem outputFrameStart (t : Time) (o : FrameOrder) :
    Statement (.outputFrameStart t o) := by
  intro _ k p e
  cases e

theorem packetArrival (t : Time) (i : InputId) (bytes : List Byte) :
    Statement (.packetArrival t i bytes) := by
  intro _ k p e
  cases e

theorem resume (t : Time) :
    Statement (.resume t) := by
  intro _ k p e
  simp only [encodePayload, Option.some.injEq, Prod.mk.injEq] at e
  obtain ⟨rfl, rfl⟩ := e
  decide

theorem controlReset (t : Time) :
    Statement (.controlReset t) := by
  intro _ k p e
  simp only [encodePayload, Option.some.injEq, Prod.mk.injEq] at e
  obtain ⟨rfl, rfl⟩ := e
  decide

theorem statusRequest (t : Time) :
    Statement (.statusRequest t) := by
  intro _ k p e
  simp only [encodePayload, Option.some.injEq, Prod.mk.injEq] at e
  obtain ⟨rfl, rfl⟩ := e
  decide

theorem load (t : Time) (table : Byte) (first : BitVec 16) (count : Byte) (flags : Byte) (entries : List Byte) :
    Statement (.load t table first count flags entries) := by
  intro h k p e
  simp only [encodePayload, Option.some.injEq, Prod.mk.injEq] at e
  obtain ⟨rfl, rfl⟩ := e
  have h := of_decide_eq_true h
  have h2 : entries.length ≤ 243 := h.2
  simp [Kind.code, bytes2, Config.maxPayload]
  omega

theorem readTable (t : Time) (table : Byte) (first : BitVec 16) (count : Byte) :
    Statement (.readTable t table first count) := by
  intro _ k p e
  simp only [encodePayload, Option.some.injEq, Prod.mk.injEq] at e
  obtain ⟨rfl, rfl⟩ := e
  exact ⟨by decide, by decide, Nat.le_of_ble_eq_true rfl⟩

theorem layoutSelect (t : Time) (layout : Byte) :
    Statement (.layoutSelect t layout) := by
  intro _ k p e
  simp only [encodePayload, Option.some.injEq, Prod.mk.injEq] at e
  obtain ⟨rfl, rfl⟩ := e
  exact ⟨by decide, by decide, Nat.le_of_ble_eq_true rfl⟩

theorem assetOpen (t : Time) (id : BitVec 16) (kind : Byte) (width : BitVec 16) (height : BitVec 16) (frames : Byte) (interval : Byte) :
    Statement (.assetOpen t id kind width height frames interval) := by
  intro _ k p e
  simp only [encodePayload, Option.some.injEq, Prod.mk.injEq] at e
  obtain ⟨rfl, rfl⟩ := e
  exact ⟨by decide, by decide, Nat.le_of_ble_eq_true rfl⟩

theorem assetData (t : Time) (id : BitVec 16) (offset : BitVec 40) (data : List Byte) :
    Statement (.assetData t id offset data) := by
  intro h k p e
  simp only [encodePayload, Option.some.injEq, Prod.mk.injEq] at e
  obtain ⟨rfl, rfl⟩ := e
  simp [Instr.wellFormed, segmentFits] at h
  simp [Kind.code, bytes2, bytes5, Config.maxPayload]
  omega

theorem assetClose (t : Time) (id : BitVec 16) (check : BitVec 32) :
    Statement (.assetClose t id check) := by
  intro _ k p e
  simp only [encodePayload, Option.some.injEq, Prod.mk.injEq] at e
  obtain ⟨rfl, rfl⟩ := e
  exact ⟨by decide, by decide, Nat.le_of_ble_eq_true rfl⟩

theorem assetDrop (t : Time) (id : BitVec 16) :
    Statement (.assetDrop t id) := by
  intro _ k p e
  simp only [encodePayload, Option.some.injEq, Prod.mk.injEq] at e
  obtain ⟨rfl, rfl⟩ := e
  exact ⟨by decide, by decide, Nat.le_of_ble_eq_true rfl⟩

theorem recordStart (t : Time) (source : Byte) :
    Statement (.recordStart t source) := by
  intro _ k p e
  simp only [encodePayload, Option.some.injEq, Prod.mk.injEq] at e
  obtain ⟨rfl, rfl⟩ := e
  exact ⟨by decide, by decide, Nat.le_of_ble_eq_true rfl⟩

theorem recordStop (t : Time) :
    Statement (.recordStop t) := by
  intro _ k p e
  simp only [encodePayload, Option.some.injEq, Prod.mk.injEq] at e
  obtain ⟨rfl, rfl⟩ := e
  decide

theorem markIn (t : Time) (mark : Byte) (point : Byte) (number : BitVec 32) (label : BitVec 16) :
    Statement (.markIn t mark point number label) := by
  intro _ k p e
  simp only [encodePayload, Option.some.injEq, Prod.mk.injEq] at e
  obtain ⟨rfl, rfl⟩ := e
  exact ⟨by decide, by decide, Nat.le_of_ble_eq_true rfl⟩

theorem markOut (t : Time) (mark : Byte) (point : Byte) (number : BitVec 32) :
    Statement (.markOut t mark point number) := by
  intro _ k p e
  simp only [encodePayload, Option.some.injEq, Prod.mk.injEq] at e
  obtain ⟨rfl, rfl⟩ := e
  exact ⟨by decide, by decide, Nat.le_of_ble_eq_true rfl⟩

theorem markClear (t : Time) (mark : Byte) :
    Statement (.markClear t mark) := by
  intro _ k p e
  simp only [encodePayload, Option.some.injEq, Prod.mk.injEq] at e
  obtain ⟨rfl, rfl⟩ := e
  exact ⟨by decide, by decide, Nat.le_of_ble_eq_true rfl⟩

theorem cue (t : Time) (mark : Byte) :
    Statement (.cue t mark) := by
  intro _ k p e
  simp only [encodePayload, Option.some.injEq, Prod.mk.injEq] at e
  obtain ⟨rfl, rfl⟩ := e
  exact ⟨by decide, by decide, Nat.le_of_ble_eq_true rfl⟩

theorem play (t : Time) (mark : Byte) (n : Byte) (d : Byte) (endAction : Byte) :
    Statement (.play t mark n d endAction) := by
  intro _ k p e
  simp only [encodePayload, Option.some.injEq, Prod.mk.injEq] at e
  obtain ⟨rfl, rfl⟩ := e
  exact ⟨by decide, by decide, Nat.le_of_ble_eq_true rfl⟩

theorem pause (t : Time) :
    Statement (.pause t) := by
  intro _ k p e
  simp only [encodePayload, Option.some.injEq, Prod.mk.injEq] at e
  obtain ⟨rfl, rfl⟩ := e
  decide

theorem continuePlay (t : Time) :
    Statement (.continuePlay t) := by
  intro _ k p e
  simp only [encodePayload, Option.some.injEq, Prod.mk.injEq] at e
  obtain ⟨rfl, rfl⟩ := e
  decide

theorem step (t : Time) (amount : BitVec 16) :
    Statement (.step t amount) := by
  intro _ k p e
  simp only [encodePayload, Option.some.injEq, Prod.mk.injEq] at e
  obtain ⟨rfl, rfl⟩ := e
  exact ⟨by decide, by decide, Nat.le_of_ble_eq_true rfl⟩

theorem playerStop (t : Time) :
    Statement (.playerStop t) := by
  intro _ k p e
  simp only [encodePayload, Option.some.injEq, Prod.mk.injEq] at e
  obtain ⟨rfl, rfl⟩ := e
  decide

theorem clockStart (t : Time) (channel : Byte) :
    Statement (.clockStart t channel) := by
  intro _ k p e
  simp only [encodePayload, Option.some.injEq, Prod.mk.injEq] at e
  obtain ⟨rfl, rfl⟩ := e
  exact ⟨by decide, by decide, Nat.le_of_ble_eq_true rfl⟩

theorem clockStop (t : Time) (channel : Byte) :
    Statement (.clockStop t channel) := by
  intro _ k p e
  simp only [encodePayload, Option.some.injEq, Prod.mk.injEq] at e
  obtain ⟨rfl, rfl⟩ := e
  exact ⟨by decide, by decide, Nat.le_of_ble_eq_true rfl⟩

theorem clockSet (t : Time) (channel : Byte) (ms : BitVec 32) :
    Statement (.clockSet t channel ms) := by
  intro _ k p e
  simp only [encodePayload, Option.some.injEq, Prod.mk.injEq] at e
  obtain ⟨rfl, rfl⟩ := e
  exact ⟨by decide, by decide, Nat.le_of_ble_eq_true rfl⟩

theorem clockAdjust (t : Time) (channel : Byte) (ms : BitVec 32) :
    Statement (.clockAdjust t channel ms) := by
  intro _ k p e
  simp only [encodePayload, Option.some.injEq, Prod.mk.injEq] at e
  obtain ⟨rfl, rfl⟩ := e
  exact ⟨by decide, by decide, Nat.le_of_ble_eq_true rfl⟩

theorem clockPreset (t : Time) (channel : Byte) :
    Statement (.clockPreset t channel) := by
  intro _ k p e
  simp only [encodePayload, Option.some.injEq, Prod.mk.injEq] at e
  obtain ⟨rfl, rfl⟩ := e
  exact ⟨by decide, by decide, Nat.le_of_ble_eq_true rfl⟩

theorem clockReport (t : Time) (channel : Byte) (ms : BitVec 32) (running : Byte) :
    Statement (.clockReport t channel ms running) := by
  intro _ k p e
  simp only [encodePayload, Option.some.injEq, Prod.mk.injEq] at e
  obtain ⟨rfl, rfl⟩ := e
  exact ⟨by decide, by decide, Nat.le_of_ble_eq_true rfl⟩

theorem scoreSet (t : Time) (field : Byte) (value : BitVec 16) :
    Statement (.scoreSet t field value) := by
  intro _ k p e
  simp only [encodePayload, Option.some.injEq, Prod.mk.injEq] at e
  obtain ⟨rfl, rfl⟩ := e
  exact ⟨by decide, by decide, Nat.le_of_ble_eq_true rfl⟩

theorem scoreAdd (t : Time) (field : Byte) (delta : BitVec 16) :
    Statement (.scoreAdd t field delta) := by
  intro _ k p e
  simp only [encodePayload, Option.some.injEq, Prod.mk.injEq] at e
  obtain ⟨rfl, rfl⟩ := e
  exact ⟨by decide, by decide, Nat.le_of_ble_eq_true rfl⟩

theorem contractPause (t : Time) (contract : Byte) :
    Statement (.contractPause t contract) := by
  intro _ k p e
  simp only [encodePayload, Option.some.injEq, Prod.mk.injEq] at e
  obtain ⟨rfl, rfl⟩ := e
  exact ⟨by decide, by decide, Nat.le_of_ble_eq_true rfl⟩

theorem contractResume (t : Time) (contract : Byte) :
    Statement (.contractResume t contract) := by
  intro _ k p e
  simp only [encodePayload, Option.some.injEq, Prod.mk.injEq] at e
  obtain ⟨rfl, rfl⟩ := e
  exact ⟨by decide, by decide, Nat.le_of_ble_eq_true rfl⟩

theorem periodClose (t : Time) :
    Statement (.periodClose t) := by
  intro _ k p e
  simp only [encodePayload, Option.some.injEq, Prod.mk.injEq] at e
  obtain ⟨rfl, rfl⟩ := e
  decide

theorem settleRemove (t : Time) (n : Byte) :
    Statement (.settleRemove t n) := by
  intro _ k p e
  simp only [encodePayload, Option.some.injEq, Prod.mk.injEq] at e
  obtain ⟨rfl, rfl⟩ := e
  exact ⟨by decide, by decide, Nat.le_of_ble_eq_true rfl⟩

theorem post (t : Time) (tag : BitVec 16) (cls : Byte) (strip : BitVec 16) (lane : Byte) (mode : Byte) (pace : BitVec 16) (repeats : Byte) (lifetime : BitVec 16) :
    Statement (.post t tag cls strip lane mode pace repeats lifetime) := by
  intro _ k p e
  simp only [encodePayload, Option.some.injEq, Prod.mk.injEq] at e
  obtain ⟨rfl, rfl⟩ := e
  exact ⟨by decide, by decide, Nat.le_of_ble_eq_true rfl⟩

theorem withdraw (t : Time) (tag : BitVec 16) :
    Statement (.withdraw t tag) := by
  intro _ k p e
  simp only [encodePayload, Option.some.injEq, Prod.mk.injEq] at e
  obtain ⟨rfl, rfl⟩ := e
  exact ⟨by decide, by decide, Nat.le_of_ble_eq_true rfl⟩

theorem clearClass (t : Time) (cls : Byte) :
    Statement (.clearClass t cls) := by
  intro _ k p e
  simp only [encodePayload, Option.some.injEq, Prod.mk.injEq] at e
  obtain ⟨rfl, rfl⟩ := e
  exact ⟨by decide, by decide, Nat.le_of_ble_eq_true rfl⟩

theorem horn (t : Time) (ms : BitVec 16) :
    Statement (.horn t ms) := by
  intro _ k p e
  simp only [encodePayload, Option.some.injEq, Prod.mk.injEq] at e
  obtain ⟨rfl, rfl⟩ := e
  exact ⟨by decide, by decide, Nat.le_of_ble_eq_true rfl⟩

theorem cueArm (t : Time) (index : Byte) :
    Statement (.cueArm t index) := by
  intro _ k p e
  simp only [encodePayload, Option.some.injEq, Prod.mk.injEq] at e
  obtain ⟨rfl, rfl⟩ := e
  exact ⟨by decide, by decide, Nat.le_of_ble_eq_true rfl⟩

theorem cueDisarm (t : Time) (index : Byte) :
    Statement (.cueDisarm t index) := by
  intro _ k p e
  simp only [encodePayload, Option.some.injEq, Prod.mk.injEq] at e
  obtain ⟨rfl, rfl⟩ := e
  exact ⟨by decide, by decide, Nat.le_of_ble_eq_true rfl⟩

theorem loadTimerExpiry (t : Time) (table : Fin 15) :
    Statement (.loadTimerExpiry t table) := by
  intro _ k p e
  cases e

theorem unattendedTimerExpiry (t : Time) :
    Statement (.unattendedTimerExpiry t) := by
  intro _ k p e
  cases e

theorem assetLoadTimerExpiry (t : Time) (id : AssetId) :
    Statement (.assetLoadTimerExpiry t id) := by
  intro _ k p e
  cases e

theorem contactLevelChange (t : Time) (line : Fin 4) (high : Bool) :
    Statement (.contactLevelChange t line high) := by
  intro _ k p e
  cases e

theorem contactFilterExpiry (t : Time) (line : Fin 4) :
    Statement (.contactFilterExpiry t line) := by
  intro _ k p e
  cases e

theorem hornEnd (t : Time) :
    Statement (.hornEnd t) := by
  intro _ k p e
  cases e

theorem resetnHeldLow (t : Time) :
    Statement (.resetnHeldLow t) := by
  intro _ k p e
  cases e

end Sys2Proof.Laws.Wf
end

