-- ==== Sys2Proof/Laws/Pictures.lean ====
section
/-! SUPPORT. What one drawing does to a pixel, and what the compositor does with one pin (R64, R138, R179). -/

set_option Elab.async false

namespace Sys2Proof.Machine

/-- The pixel of a drawing at a place of the picture it is drawn on, seen where the drawing covers it. -/
def Drawing.at (d : Drawing) (x y : Nat) : Pixel := d.pic.pixel ((x : Int) - d.x).toNat ((y : Int) - d.y).toNat

/-- The drawing covers the place with an alpha above 0 (R138, R179). -/
def Drawing.covers (d : Drawing) (x y : Nat) : Prop :=
  0 ≤ (x : Int) - d.x ∧ (x : Int) - d.x < d.pic.width ∧ 0 ≤ (y : Int) - d.y ∧ (y : Int) - d.y < d.pic.height ∧ 0 < (d.at x y).a

/-- Everything a drawing can do to a pixel: it covers it and its own pixel stands there, or it leaves it (R138, R179). -/
theorem Drawing.over_cases (d : Drawing) (x y : Nat) (below : Pixel) :
    (d.covers x y ∧ d.over x y below = d.at x y) ∨ (¬ d.covers x y ∧ d.over x y below = below) := by
  unfold Drawing.over Drawing.covers Drawing.at Pic.get Pixel.clear
  dsimp only
  split
  · right; exact ⟨by omega, rfl⟩
  · rename_i inside
    by_cases h : ((x : Int) - d.x).toNat < d.pic.width ∧ ((y : Int) - d.y).toNat < d.pic.height
    · rw [if_pos h]
      split
      · right; exact ⟨by omega, rfl⟩
      · left; exact ⟨by omega, rfl⟩
    · rw [if_neg h, if_pos rfl]
      right; exact ⟨by omega, rfl⟩

@[simp] theorem drawn_width (w h : Nat) (ds : List Drawing) : (drawn w h ds).width = w := rfl
@[simp] theorem drawn_height (w h : Nat) (ds : List Drawing) : (drawn w h ds).height = h := rfl

/-- A picture with one more drawing has that drawing over the others. -/
theorem drawn_append_pixel (w h : Nat) (ds : List Drawing) (d : Drawing) (x y : Nat) :
    (drawn w h (ds ++ [d])).pixel x y = d.over x y ((drawn w h ds).pixel x y) := by
  unfold drawn
  simp only [List.foldl_append, List.foldl_cons, List.foldl_nil]

/-- Everything a pin request of the compositor can do (R64). -/
theorem takeWanted_cases (s : State) (id : AssetId) :
    (id ∉ s.comp.pins ∧ s.assets.recs[id].state = .ready ∧
      takeWanted s id = { takePin id s with comp.pins := s.comp.pins ++ [id] }) ∨
    ((id ∈ s.comp.pins ∨ s.assets.recs[id].state ≠ .ready) ∧ takeWanted s id = s) := by
  unfold takeWanted
  split
  · left; exact ⟨‹_ ∧ _›.1, ‹_ ∧ _›.2, rfl⟩
  · right; refine ⟨?_, rfl⟩
    rename_i h
    by_cases m : id ∈ s.comp.pins
    · exact .inl m
    · exact .inr fun r => h ⟨m, r⟩

/-- Everything a pin release of the compositor can do (R64). -/
theorem releaseUnwanted_cases (wanted : List AssetId) (s : State) (id : AssetId) :
    (id ∈ wanted ∧ releaseUnwanted wanted s id = s) ∨
    (id ∉ wanted ∧ releaseUnwanted wanted s id = { releasePin id s with comp.pins := s.comp.pins.erase id }) := by
  unfold releaseUnwanted
  split
  · left; exact ⟨‹_›, rfl⟩
  · right; exact ⟨‹_›, rfl⟩

end Sys2Proof.Machine
end

