-- ==== Sys2Proof/Laws/Settling.lean ====
section
/-! SUPPORT. What taking a command or an event can do, and what the cue unit's taking of the waiting triggers keeps. -/

set_option Elab.async false

namespace Sys2Proof.Machine

/-- A fold keeps what each of its steps keeps. -/
theorem foldl_keeps {α β : Type} (P : β → Prop) (f : β → α → β) (hf : ∀ b a, P b → P (f b a)) (l : List α) (b : β)
    (h : P b) : P (l.foldl f b) := by
  induction l generalizing b with
  | nil => exact h
  | cons a l ih => exact ih _ (hf b a h)

/-! ### Answers -/

/-- An owner's answer is its state, or its state with one refusal report raised (R29). -/
theorem Reply.done_cases (r : Reply) (o : Origin) (k : Nat) :
    (r.reason = none ∧ r.done o k = r.state) ∨ ∃ why, r.reason = some why ∧ r.done o k = raiseRefusal o k why r.state := by
  unfold Reply.done
  split
  · left; exact ⟨‹_›, rfl⟩
  · right; exact ⟨_, ‹_›, rfl⟩

@[simp] theorem accept_done (s : State) (o : Origin) (k : Nat) : (accept s).done o k = s := rfl
@[simp] theorem refuse_done (s : State) (why : Reason) (o : Origin) (k : Nat) :
    (refuse s why).done o k = raiseRefusal o k why s := rfl
@[simp] theorem accept_state (s : State) : (accept s).state = s := rfl
@[simp] theorem accept_reason (s : State) : (accept s).reason = none := rfl
@[simp] theorem refuse_state (s : State) (why : Reason) : (refuse s why).state = s := rfl
@[simp] theorem refuse_reason (s : State) (why : Reason) : (refuse s why).reason = some why := rfl

/-- Everything dispatch can do after KIND and LEN: the health refusal, or the owner's answer (R28). -/
theorem dispatch_cases (k : Kind) (em : Bool) (op : State → Reply) (s : State) :
    (∃ why, healthGate s.health k em = some why ∧ dispatch k em op s = raiseRefusal .packet k.code why s) ∨
    (healthGate s.health k em = none ∧ dispatch k em op s = (op s).done .packet k.code) := by
  unfold dispatch
  split
  · left; exact ⟨_, ‹_›, rfl⟩
  · right; exact ⟨‹_›, rfl⟩

/-- Everything a command can come to. -/
theorem command_cases {t : Time} {k : Kind} {em : Bool} {op : State → Reply} {s s' : State}
    (h : command t k em op s = .next s') :
    (s.inReset = true ∧ s' = s) ∨ (s.inReset = false ∧ s' = settle (dispatch k em op (s.at t))) := by
  unfold command at h
  split at h
  · left; exact ⟨‹_›, by injection h with h; exact h.symm⟩
  · right; exact ⟨Bool.eq_false_iff.mpr ‹_›, by injection h with h; exact h.symm⟩

/-- Everything an event can come to. -/
theorem event_cases {t : Time} {f : State → State} {s s' : State} (h : event t f s = .next s') :
    (s.inReset = true ∧ s' = s) ∨ (s.inReset = false ∧ s' = settle (f (s.at t))) := by
  unfold event at h
  split at h
  · left; exact ⟨‹_›, by injection h with h; exact h.symm⟩
  · right; exact ⟨Bool.eq_false_iff.mpr ‹_›, by injection h with h; exact h.symm⟩

/-- A command always comes to a next state. -/
theorem command_next (t : Time) (k : Kind) (em : Bool) (op : State → Reply) (s : State) :
    ∃ s', command t k em op s = .next s' := by
  unfold command; split <;> exact ⟨_, rfl⟩

/-- An event always comes to a next state. -/
theorem event_next (t : Time) (f : State → State) (s : State) : ∃ s', event t f s = .next s' := by
  unfold event; split <;> exact ⟨_, rfl⟩

/-- A command that its health state and RESETN let through comes to its owner's answer. -/
theorem command_taken {t : Time} {k : Kind} {em : Bool} (op : State → Reply) {s : State} (hr : s.inReset = false)
    (hh : healthGate s.health k em = none) :
    command t k em op s = .next (settle ((op (s.at t)).done .packet k.code)) := by
  unfold command dispatch
  rw [if_neg (by simp [hr])]
  have : (s.at t).health = s.health := rfl
  rw [this, hh]

/-- An event outside reset. -/
theorem event_taken {t : Time} (f : State → State) {s : State} (hr : s.inReset = false) :
    event t f s = .next (settle (f (s.at t))) := by
  unfold event
  rw [if_neg (by simp [hr])]

/-! ### Settling (R191) -/

/-- With no trigger waiting the cue unit does nothing. -/
theorem settle_idle {s : State} (h : s.cues.pendingTriggers = []) : settle s = s := by
  unfold settle
  rw [h]
  simp only [List.length_nil, Nat.zero_add]
  unfold takeTriggers
  rw [h]

/-- What holds before the waiting triggers are taken holds after, if leaving the queue and each cue's turn keep it. -/
theorem settle_keeps (P : State → Prop)
    (hpop : ∀ s g rest, s.cues.pendingTriggers = g :: rest → P s → P { s with cues.pendingTriggers := rest })
    (hfire : ∀ g s i, P s → P (fireCue g s i)) (s : State) (h : P s) : P (settle s) := by
  unfold settle
  generalize s.cues.pendingTriggers.length + 64 = fuel
  induction fuel generalizing s with
  | zero => exact h
  | succ n ih =>
    unfold takeTriggers
    split
    · exact h
    · exact ih _ (foldl_keeps P _ (hfire _) _ _ (hpop _ _ _ ‹_› h))

/-- Everything one cue's turn can do: nothing, or its record fires and its action is answered (R191, R192). -/
theorem fireCue_cases (g : Trigger) (s : State) (i : Fin 32) :
    (cueFires s g i = false ∧ fireCue g s i = s) ∨
    (cueFires s g i = true ∧ fireCue g s i =
      ((cueAction g.arrival (s.cueCfg i)
          (s.setCue i (s.cues.records[i].fire (s.cueCfg i).every (s.frameOf g.arrival)))).1).done (.cue i)
        ((cueAction g.arrival (s.cueCfg i)
          (s.setCue i (s.cues.records[i].fire (s.cueCfg i).every (s.frameOf g.arrival)))).2.code)) := by
  unfold fireCue
  split
  · right; exact ⟨‹_›, rfl⟩
  · left; exact ⟨Bool.eq_false_iff.mpr ‹_›, rfl⟩

/-- What every cue's action keeps, each cue's turn keeps. -/
theorem fireCue_keeps (P : State → Prop) (hset : ∀ s i r, P s → P (s.setCue i r))
    (href : ∀ o k why s, P s → P (raiseRefusal o k why s))
    (hact : ∀ t c s, P s → P (cueAction t c s).1.state) (g : Trigger) (s : State) (i : Fin 32) (h : P s) :
    P (fireCue g s i) := by
  rcases fireCue_cases g s i with ⟨_, e⟩ | ⟨_, e⟩
  · rw [e]; exact h
  · rw [e]
    rcases Reply.done_cases _ (.cue i) _ with ⟨_, d⟩ | ⟨why, _, d⟩
    · rw [d]; exact hact _ _ _ (hset _ _ _ h)
    · rw [d]; exact href _ _ _ _ (hact _ _ _ (hset _ _ _ h))

/-! ### Commits (R33) -/

/-- Everything handing a table over can do: nothing, a rejection or a commit (R33). -/
theorem handTable_cases (t : Time) (id : Fin 15) (s : State) :
    (handTable t id s = s) ∨ ∃ staging, s.control.loads[id] = .complete staging ∧
      ((∃ k, firstInvalid s id staging = some k ∧
        handTable t id s = raiseEvent .commitRejected id.val (be 1 id.val ++ be 2 k) (s.setLoad id .idle)) ∨
       (firstInvalid s id staging = none ∧
        handTable t id s = raiseEvent .commitDone id.val (be 1 id.val)
          (commitEffects t id s.active[id] ((s.setTable id staging).setLoad id .idle)))) := by
  unfold handTable
  split
  · right
    refine ⟨_, ‹_›, ?_⟩
    unfold commitTable
    split
    · left; exact ⟨_, ‹_›, rfl⟩
    · right; exact ⟨‹_›, rfl⟩
  · left; rfl

end Sys2Proof.Machine
end

