-- ==== Sys2Proof/Laws/Tables.lean ====
section
/-! SUPPORT. The numbers of a table entry, and a picture built row by row, as lists read them (R33, R84). -/

set_option Elab.async false

namespace Sys2Proof.Machine

/-- Bytes folded most significant first are the number they are read as. -/
theorem beValue_eq_foldl (bs : List Byte) : beValue bs = bs.foldl (fun v b => 256 * v + b.toNat) 0 := by
  unfold beValue
  congr 1
  funext v b
  omega

/-- A byte field is a number of one byte. -/
theorem byteAt_eq_beAt (e : List Byte) (off : Nat) : byteAt e off = beAt e off 1 := by
  unfold byteAt beAt beValue
  rcases h : e.drop off with _ | ⟨x, r⟩
  · have short : e.length ≤ off := by simpa using h
    simp [List.getD_eq_getElem?_getD, List.getElem?_eq_none short]
  · have first : e[off]? = some x := by
      have := congrArg (·[0]?) h
      rw [List.getElem?_drop] at this
      exact this
    simp [List.getD_eq_getElem?_getD, first]

/-- A field inside an entry is that run of the table's bytes. -/
theorem beAt_entryOf (bs : List Byte) (size i off n : Nat) (inside : off + n ≤ size) :
    beAt (entryOf bs size i) off n = beValue ((bs.drop (size * i + off)).take n) := by
  unfold beAt entryOf
  rw [List.drop_take, List.take_take, List.drop_drop, Nat.min_eq_left (by omega)]

/-- Two runs do not meet when one ends before the other begins (R72). -/
theorem runsMeet_eq_false (x n y k : Nat) : runsMeet x n y k = false ↔ y + k ≤ x ∨ x + n ≤ y := by
  unfold runsMeet
  rw [decide_eq_false_iff_not]
  omega

/-- The pixel of a picture built row by row. -/
theorem grid_getD (w : Nat) (f : Nat → Nat → Rgb) (d : Rgb) :
    ∀ h x y, x < w → y < h →
      ((List.range h).flatMap fun y => (List.range w).map fun x => f x y).getD (y * w + x) d = f x y := by
  have len : ∀ h, ((List.range h).flatMap fun y => (List.range w).map fun x => f x y).length = h * w := by
    intro h
    induction h with
    | zero => simp
    | succ h ih => rw [List.range_succ, List.flatMap_append, List.length_append, ih]; simp [Nat.succ_mul]
  intro h
  induction h with
  | zero => intro x y _ hy; omega
  | succ h ih =>
    intro x y hx hy
    rw [List.range_succ, List.flatMap_append, List.getD_eq_getElem?_getD]
    by_cases e : y < h
    · have inside : (y + 1) * w ≤ h * w := Nat.mul_le_mul_right w e
      rw [Nat.succ_mul] at inside
      rw [List.getElem?_append_left (by rw [len]; omega), ← List.getD_eq_getElem?_getD, ih x y hx e]
    · have last : y = h := by omega
      subst last
      rw [List.getElem?_append_right (by rw [len]; omega), len]
      simp [hx]

end Sys2Proof.Machine
end

