-- ==== Sys2Proof/Tests/Slice0.lean ====
section
/-! SUPPORT. Tests of one step each with results worked out by hand from the spec, the well-formedness smoke tests, and for
every obligation with hypotheses a concrete state and operands that meet them. -/

set_option Elab.async false

namespace Sys2Proof.Tests

open Machine

/-! ### Helpers -/

/-- The part after reset. -/
def s0 : State := State.reset

/-- The state a command comes to, or the state before it where it stops. -/
def ran (c : Instr) (s : State) : State := match exec c s with | .next u => u | _ => s

/-- A command that comes to a next state comes to `ran`. -/
def completes (c : Instr) (s : State) : Bool := match exec c s with | .next _ => true | _ => false
theorem next_ran {c : Instr} {s : State} (h : completes c s = true) : exec c s = .next (ran c s) := by
  unfold completes at h; unfold ran; split at h <;> simp_all

/-- A 1 × 1 picture, and a good frame of it. -/
def dot : Picture := ⟨1, 1, [⟨7, 8, 9⟩]⟩
def frame : InputFrame := ⟨true, true, dot⟩

/-- A receiver LOCKED at 50 Hz since instant 0, with its feed LIVE. -/
def locked50 : Receiver := { Receiver.reset true with lock := .locked .hz50, latest := some 0, goodRun := 8, feed := .live }

/-- LIVE on PGM. -/
def sLive : State := { s0 with pgm := locked50, timing.op := .live }

/-- A READY image, pinned `pins` times, in block 0. -/
def image (pins : Nat) : Asset :=
  { Asset.empty with state := .ready, width := 1, height := 1, frames := 1, dataSize := 4, blocks := 1, pins := pins }

/-- A LOADING image of 4 bytes with 2 received. -/
def loadingImage : Asset :=
  { image 0 with state := .loading, received := 2, crc := crc32Run 0xFFFFFFFF [1, 2], timer := some 100 }

/-- A ring of 2048 slots whose newest frame is 3 and whose oldest is 1. -/
def ring3 : Ring :=
  { slots := List.replicate 2048 none, writePos := 3, present := 3, newest := some 3 }

/-- Mark 1 is VALID from frame 1 to frame 2, with frames 1 to 3 in the ring. -/
def sMark : State :=
  { s0 with replay.ring := ring3, replay.recorder.lastNumber := 3,
            replay.marks := s0.replay.marks.set 1 (.valid ⟨1, some 2, 5⟩) }

/-- The player on mark 1 in a state. -/
def sPlayer (st : PlayerState) : State :=
  { sMark with replay.player := { s0.replay.player with state := st, mark := 1, position := 1 } }

/-- An entry of the message queue. -/
def entry (tag : Nat) (c : MessageClass) : Message :=
  { tag := tag, cls := c, strip := 2, lane := 0, mode := .hold, pace := 5, repeatsLeft := 0, lifetime := 0, age := 0,
    passes := 0, leaving := none }

/-- Two entries wait, an EMERGENCY and a STANDARD one; asset 2 is their strip. -/
def sQueue : State :=
  { s0 with assets.recs := s0.assets.recs.set 2 (image 2), msgs.queue := [entry 1 .emergency, entry 2 .standard] }

/-- Channel 0 in a state at a value. -/
def sClock (st : ClockState) (v : Nat) : State := s0.setClock 0 { Clock.reset with state := st, value := v }

/-- The active table `id` replaced. -/
def withTable (s : State) (id : Fin 15) (bs : List Byte) : State := { s with active := s.active.set id bs }

/-! ### Commands that no link, pin or timer can bring -/

theorem wf_frame_without_pixels : (Instr.inputFrameStart 0 .pgm ⟨true, true, ⟨2, 1, []⟩⟩).wellFormed = false := by decide
theorem wf_packet_without_preamble : (Instr.packetArrival 0 .pgm [0xB5, 0x4F]).wellFormed = false := by decide
theorem wf_packet_too_long :
    (Instr.packetArrival 0 .pgm (0xB5 :: 0x4E :: List.replicate 257 0)).wellFormed = false := by decide +kernel
theorem wf_load_of_a_missing_entry : (Instr.load 0 14 0 1 3 [10, 0, 0]).wellFormed = false := by decide
theorem wf_load_too_long : (Instr.load 0 9 0 2 3 (List.replicate 416 0)).wellFormed = false := by decide +kernel
theorem wf_empty_segment : (Instr.assetData 0 0 0 []).wellFormed = false := by decide
theorem wf_long_segment : (Instr.assetData 0 0 0 (List.replicate 242 1)).wellFormed = false := by decide +kernel
theorem wf_good_load : (Instr.load 0 14 0 1 3 [10, 0, 0, 0]).wellFormed = true := by decide

/-! ### Bytes, checks and packets -/

/-- The check value of the CRC with the polynomial, start and order of R23 over the bytes 31h to 39h. -/
theorem test_crc16 : crc16 [0x31, 0x32, 0x33, 0x34, 0x35, 0x36, 0x37, 0x38, 0x39] = 0x29B1 := by decide +kernel
/-- The check value of the CRC-32 of R74 over the same bytes. -/
theorem test_crc32 : ~~~ crc32Run 0xFFFFFFFF [0x31, 0x32, 0x33, 0x34, 0x35, 0x36, 0x37, 0x38, 0x39] = 0xCBF43926 := by
  decide +kernel

/-- MARK_IN of mark 2 at frame 258 with label 772, as R23 and R92 lay it out. -/
theorem test_decode_mark_in :
    decodePayload 9 .markIn [2, 0, 0, 0, 1, 2, 3, 4] = some (.markIn 9 2 0 258 772) := by decide +kernel
theorem test_decode_post :
    decodePayload 9 .post [0, 7, 1, 1, 0xFF, 3, 0, 0x20, 0, 2, 0, 60] = some (.post 9 7 1 511 3 0 8192 2 60) := by
  decide +kernel
theorem test_decode_asset_open :
    decodePayload 9 .assetOpen [0, 5, 3, 0, 64, 0, 32, 8, 2] = some (.assetOpen 9 5 3 64 32 8 2) := by decide +kernel
theorem test_decode_load :
    decodePayload 9 .load [14, 0, 3, 1, 3, 10, 1, 2, 0] = some (.load 9 14 3 1 3 [10, 1, 2, 0]) := by decide +kernel
theorem test_decode_wrong_length : decodePayload 9 .horn [1] = none := by decide +kernel
theorem test_kind_of_highest : kindOf? 39 = some .cueDisarm ∧ kindOf? 40 = none ∧ kindOf? 0 = none := by decide +kernel

/-- The bytes of a HORN of 500 ms addressed to unit 0, field by field in the order of R23, with its CHECK worked out outside
the model. -/
def hornPacket : List Byte := [0xB5, 0x4E, 0, 0, 0, 0, 37, 2, 1, 0xF4, 0x48, 0xFF]

theorem test_packet_written : writePacket ⟨0, 0, 37, [1, 0xF4]⟩ = hornPacket := by decide +kernel
theorem test_packet_reads_back : readPacket? hornPacket = some ⟨0, 0, 37, [1, 0xF4]⟩ := by decide +kernel
theorem test_packet_of_a_changed_byte : readPacket? (hornPacket.set 8 2) = none := by decide +kernel

/-! ### Steps, resets and stops -/

theorem witness_StepRunsFrontCommand :
    { s0 with pending := [.hornEnd 1, .pause 2] }.pending = .hornEnd 1 :: [.pause 2] ∧ s0.pending = [] := ⟨rfl, rfl⟩
theorem test_step : step { s0 with pending := [.layoutSelect 5 3, .pause 6] } =
    .next { s0 with count := 5, comp.pendingLayout := some 3, pending := [.pause 6] } := rfl
theorem test_step_idle : step s0 = .next s0 := rfl

/-- No asset occupies a block after reset. -/
theorem reset_occupies (i : AssetId) : (s0.assets.recs[i]).occupies = false := by
  simp [s0, State.reset, State.released, Asset.occupies, Asset.empty]

theorem reset_assetLaw : AssetLaw s0 :=
  ⟨by decide +kernel, fun i h => absurd ((reset_occupies i).symm.trans h) Bool.false_ne_true,
    fun i _ _ h => absurd ((reset_occupies i).symm.trans h) Bool.false_ne_true⟩

theorem witness_CommandsNeverStop : AssetLaw s0 ∧ exec (.pause 3) s0 = .next (s0.refusing 3 .pause .noClip) :=
  ⟨reset_assetLaw, rfl⟩

theorem witness_Resets : { s0 with inReset := true }.inReset = true ∧ (∀ p, Instr.hornEnd 4 ≠ .deviceReset p) ∧
    (∀ t, Instr.hornEnd 4 ≠ .resetnHeldLow t) ∧ exec (.hornEnd 4) { s0 with inReset := true } = .next { s0 with inReset := true } :=
  ⟨rfl, nofun, nofun, rfl⟩

/-- A LOADING asset 1, a READY asset 3, and a message whose strip is asset 2. -/
def sLoading : State := { sQueue with assets.recs := (sQueue.assets.recs.set 1 loadingImage).set 3 (image 0) }

theorem witness_ControlReset : sLoading.takes .controlReset ∧ sLoading.assets.recs[(1 : AssetId)].state = .loading ∧
    sLoading.assets.recs[(3 : AssetId)].state ≠ .loading ∧ ∀ e ∈ sLoading.msgs.queue, e.strip ≠ 3 :=
  ⟨⟨rfl, rfl, rfl⟩, by decide +kernel, by decide +kernel, by decide +kernel⟩

/-- Two queued messages name asset 2: a control reset takes two pins off it, and frees it when it is DOOMED with no other
(R79, R184). -/
theorem test_control_reset_pins :
    let after := fun a : Asset => (emptyQueue { sQueue with assets.recs := sQueue.assets.recs.set 2 a }).assets.recs[(2 : AssetId)]
    (after (image 3)).pins = 1 ∧ (after { image 3 with state := .doomed }).state = .doomed ∧
      (after { image 2 with state := .doomed }).state = .empty := by decide +kernel

/-! ### Links and frame timing -/

theorem witness_StartAndResume :
    sLive.quiet ∧ sLive.timing.op ≠ .start ∧ s0.quiet ∧ s0.timing.op = .start ∧ s0.pgm.isLocked = false ∧
      { sLive with timing.op := .start }.pgm.lock = .locked .hz50 ∧ s0.takes .resume ∧ s0.timing.op ≠ .lockout ∧
      { s0 with timing.op := .lockout }.pgm.isLocked = false ∧ { sLive with timing.op := .lockout }.pgm.lock = .locked .hz50 :=
  ⟨⟨rfl, rfl⟩, by decide, ⟨rfl, rfl⟩, rfl, rfl, rfl, ⟨rfl, rfl, rfl⟩, by decide, rfl, rfl⟩

theorem test_resume : (ran (.resume 7) { sLive with timing.op := .lockout, timing.relockCount := 4 }).timing.op = .live := by
  decide +kernel

theorem witness_SignalEvents :
    s0.quiet ∧ (s0.receiver .pgm).lock = .absent ∧ ({ s0 with iso := Receiver.reset true }.receiver .iso).lock = .acquiring ∧
      sLive.quiet ∧ (sLive.receiver .pgm).isLocked = true ∧ (sLive.receiver .pgm).feed = .live ∧ sLive.timing.op = .live ∧
      ({ s0 with iso := { locked50 with feed := .slate } }.receiver .iso).isLocked = true :=
  ⟨⟨rfl, rfl⟩, rfl, rfl, ⟨rfl, rfl⟩, rfl, rfl, rfl, rfl⟩

/-- A lost signal in LIVE gives HOLD, and the hold timer of 2,000 ms starts (R8, R10, section 1.7). -/
theorem test_signal_lost : (ran (.signalAbsent 10 .pgm) sLive).timing.op = .hold ∧
    (ran (.signalAbsent 10 .pgm) sLive).pgm.holdTimer = some 54000010 := by decide +kernel

/-- With a hold time of 0 the lost feed passes through HOLD to SLATE in one event: the FEED reports of PGM and of OPERATING coalesce
into SLATE and FALLBACK, each with REPEAT 1, and both triggers are sent (R8 to R10). -/
theorem test_signal_lost_without_hold :
    let s := withTable sLive 0 (overwrite sLive.active[(0 : Fin 15)] 12 [0, 0, 0, 0])
    (ran (.signalAbsent 10 .pgm) s).control.queue = [⟨.feed, 0, 0, 1, [2]⟩, ⟨.feed, 0, 2, 1, [4]⟩] ∧
      s.lossTriggers 10 .pgm = [⟨10, .feed .pgm .hold⟩, ⟨10, .feed .pgm .slate⟩] := by decide +kernel

/-- HOLD offers the frame that was frozen when LIVE was left: the loss holds it, a good frame taken while ACQUIRING renews the
frozen frame and not the held one, and the PROGRAM source shows the held one (R6, R8, section 1.4). -/
theorem test_hold_frozen :
    let old : Frozen := ⟨dot, 0⟩
    let new : Picture := ⟨1, 1, [⟨1, 2, 3⟩]⟩
    let s := { sLive with timing.op := .hold, pgm := { locked50 with lock := .acquiring, feed := .hold, held := some old } }
    (ran (.signalAbsent 10 .pgm) { sLive with pgm.frozen := some old }).pgm.held = some old ∧
      (ran (.inputFrameStart 540000 .pgm { frame with picture := new }) s).pgm.frozen = some ⟨new, 540000⟩ ∧
      (ran (.inputFrameStart 540000 .pgm { frame with picture := new }) s).pgm.held = some old ∧
      (sceneOf { s with pgm.frozen := some ⟨new, 540000⟩ } (buildMap s)).program = some dot := by decide +kernel

theorem witness_TimerExpiries :
    s0.quiet ∧ (s0.receiver .pgm).isLocked = false ∧ sLive.quiet ∧ (sLive.receiver .pgm).lock = .locked .hz50 ∧
      (sLive.receiver .pgm).silent 809999 (frameTimeout .hz50) = false ∧
      (sLive.receiver .pgm).silent 810000 (frameTimeout .hz50) = true ∧ due (sLive.receiver .pgm).holdTimer 5 = false ∧
      due ({ s0 with pgm.holdTimer := some 5 }.receiver .pgm).holdTimer 5 = true ∧
      due ({ s0 with pgm.holdTimer := some 6 }.receiver .pgm).holdTimer 5 = false :=
  ⟨⟨rfl, rfl⟩, rfl, ⟨rfl, rfl⟩, rfl, by decide +kernel, by decide +kernel, rfl, by decide +kernel, by decide +kernel⟩

/-- The edges of the windows of R2. -/
theorem test_windows :
    classify locked50 537300 frame = .good .hz50 ∧ classify locked50 537299 frame = .bad ∧
      classify locked50 542700 frame = .good .hz50 ∧ classify locked50 542701 frame = .bad ∧
      classify locked50 450224 frame = .good .hz60 ∧ classify locked50 450225 frame = .good .hz5994 ∧
      classify locked50 452702 frame = .good .hz5994 ∧ classify locked50 452703 frame = .bad ∧
      classify locked50 447750 frame = .good .hz60 ∧ classify locked50 447749 frame = .bad := by decide +kernel


theorem witness_InputFrameRuns : s0.quiet ∧ (s0.receiver .iso).lock = .absent ∧ sLive.quiet ∧ (sLive.receiver .pgm).lock ≠ .absent ∧
    (Receiver.reset true).latest = none ∧ locked50.latest = some 0 ∧
    (frame.whole = true ∧ frame.checkCorrect = true ∧ frame.picture.width ≤ 4096 ∧ frame.picture.height ≤ 2048) ∧
    ¬ (({ frame with picture := ⟨4097, 1, []⟩ } : InputFrame).picture.width ≤ 4096) ∧
    ((ran (.inputFrameStart 540000 .pgm { frame with whole := false }) { sLive with pgm.badRun := 2 }).pgm).isLocked = false ∧
    sLive.recorderRests .pgm :=
  ⟨⟨rfl, rfl⟩, rfl, ⟨rfl, rfl⟩, by unfold State.recorderRests; decide +kernel⟩

/-- PGM one good frame before lock, in an operating state. -/
def sNear (op : OpState) (count : Nat) : State :=
  { s0 with timing.op := op, timing.relockCount := count,
            pgm := { Receiver.reset true with runRate := some .hz50, goodRun := 7, latest := some 0 } }

theorem witness_PgmLockAndGenlock :
    (∀ op ∈ [OpState.seeking, .start, .lockout, .hold, .fallback], ∀ n ∈ [0, 3, 4], (sNear op n).quiet ∧
      (sNear op n).pgm.lock = .acquiring ∧ classify (sNear op n).pgm 540000 frame = .good .hz50 ∧
      (sNear op n).pgm.runRate = some .hz50 ∧ 7 ≤ (sNear op n).pgm.goodRun ∧ (sNear op n).timing.op = op ∧
      (sNear op n).recorderRests .pgm ∧ (sNear op n).pgm.feed ≠ .live) ∧
    (sNear .hold 3).timing.relockCount < (sNear .hold 3).device.relockLimit ∧
    (sNear .hold 4).device.relockLimit ≤ (sNear .hold 4).timing.relockCount ∧
    (sLive.quiet ∧ sLive.timing.op = .live ∧ sLive.timing.realigning = false ∧ sLive.pgm.lock = .locked .hz50 ∧
      sLive.pgm.latest = some 0 ∧ classify sLive.pgm 540000 frame = .good .hz50 ∧ sLive.pgm.badRun < 2) := by
  unfold State.quiet State.recorderRests; decide +kernel

/-- In LIVE the output frame start comes one nominal period after the input's (R14). -/
theorem test_genlock : (ran (.inputFrameStart 540000 .pgm frame) sLive).timing.schedule = [540000, 1080000] := by
  decide +kernel

def order : FrameOrder := ⟨true, true, true, true, true, true⟩

theorem witness_OutputFrameStart :
    s0.quiet ∧ s0.timing.schedule.head? ≠ some 540001 ∧ s0.timing.schedule.head? = some 540000 ∧ s0.timing.op ≠ .live ∧
      s0.timing.schedule = [540000] ∧ { s0 with timing.schedule := [540000, 1080000] }.timing.schedule = 540000 :: 1080000 :: [] ∧
      sLive.quiet ∧ sLive.timing.schedule.head? = some 540000 ∧ sLive.timing.op = .live ∧ sLive.pgm.lock = .locked .hz50 ∧
      (sLive.receiver .pgm).isLocked = true ∧ (sLive.receiver .iso).isLocked = false := by
  unfold State.quiet; decide +kernel

/-- PGM's recorder waits, and PGM is LOCKED with its feed to become LIVE at this frame start; ISO's, whose input is not LOCKED, goes
on waiting (R87). -/
theorem test_recorder_waits :
    (let wait := fun (i : InputId) =>
       { sLive with pgm.feed := .slate, replay.recorder := { s0.replay.recorder with state := .wait, source := i } }
     (ran (.outputFrameStart 540000 order) (wait .pgm)).replay.recorder.state = .recording ∧
       (ran (.outputFrameStart 540000 order) (wait .iso)).replay.recorder.state = .wait) := by decide +kernel

/-- PGM LOCKED with its feed still SLATE; after reset nothing else has a report or a trigger to raise. -/
def sTurns : State := { sLive with pgm.feed := .slate }

/-- A frame wider than 4,096 pixels has no valid structure (R2, R7). -/
theorem test_structure :
    ((ran (.inputFrameStart 9 .pgm ⟨true, true, ⟨4097, 1, []⟩⟩) sLive).receiver .pgm).structureValid = false ∧
      ((ran (.inputFrameStart 9 .pgm ⟨true, false, dot⟩) sLive).receiver .pgm).structureValid = true := by decide +kernel

theorem witness_FeedsGoLive :
    sTurns.quiet ∧ sTurns.timing.schedule.head? = some 540000 ∧ sTurns.pgm.isLocked = true ∧ sTurns.pgm.feed ≠ .live ∧
      sTurns.iso.isLocked = false ∧ sTurns.still ∧ sTurns.unarmed ∧ sTurns.control.readback = none ∧
      ∀ id : Fin 15, sTurns.loadComplete id = false := by
  unfold State.quiet State.still State.unarmed; decide +kernel

/-- Channel 0, DOWN with 9 ticks left and its horn on, expires at this frame start; no load is COMPLETE and no cue armed. -/
theorem witness_FeedsGoLive_running :
    (sClock .running 9).quiet ∧ (sClock .running 9).timing.schedule.head? = some 540000 ∧ (sClock .running 9).unarmed ∧
      (∀ id : Fin 15, (sClock .running 9).loadComplete id = false) ∧ ((sClock .running 9).clockCfg 0).hornOn = true := by
  unfold State.quiet State.unarmed; decide +kernel

/-- Its EXPIRED report comes out of the frame start, behind the slot's STATUS, which was sent, and the horn sounds 1,500 ms from the
expiry instant (R41, R111, R112). -/
theorem test_frame_expiry :
    (let u := ran (.outputFrameStart 540000 order) (sClock .running 9)
     u.control.queue = [⟨.clock, 0, 0, 0, [0, 0, 0, 0, 0, 0, 9, 0, 0, 0, 0, 0, 0, 0, 0, 0, 9]⟩] ∧
       u.cues.horn = some 40500009) := by decide +kernel

/-- Its FEED report is queued behind the slot's own STATUS, which was sent (R9, R41). -/
theorem test_feed_goes_live : (ran (.outputFrameStart 540000 order) sTurns).control.queue = [⟨.feed, 0, 0, 0, [0]⟩] := by
  decide +kernel

/-- After reset no load is COMPLETE and no cue is armed. -/
theorem witness_OutputFrameBlocks :
    s0.quiet ∧ s0.unarmed ∧ s0.timing.schedule.head? = some 540000 ∧ ∀ id : Fin 15, s0.loadComplete id = false := by
  unfold State.quiet State.unarmed; decide +kernel

/-- The status frame count after an output frame start, and at the interval of 30 (R42). -/
theorem test_status_count :
    (ran (.outputFrameStart 540000 ⟨true, true, true, true, true, true⟩) s0).control.statusCount = 1 ∧
      (ran (.outputFrameStart 540000 ⟨true, true, true, true, true, true⟩)
        { s0 with control.statusCount := 29 }).control.statusCount = 0 := by decide +kernel

/-- An EMERGENCY entry alone, with a lifetime of 1 and on its last repeat, in the emergency lane with 1 frame left, or 2. -/
def sLast (lifetime framesLeft : Nat) : State :=
  { sQueue with
    msgs.queue := [{ entry 1 .emergency with repeatsLeft := 1, lifetime := lifetime }]
    msgs.emergency := { MessageLane.idle with current := some 1, framesLeft := framesLeft } }

theorem witness_Takeover :
    (sLast 2 2).quiet ∧ (sLast 2 2).timing.schedule.head? = some 540000 ∧
      exec (.outputFrameStart 540000 order) (sLast 2 2) = .next (ran (.outputFrameStart 540000 order) (sLast 2 2)) ∧
      MessageLaw (sLast 2 2) :=
  ⟨⟨rfl, rfl⟩, by decide +kernel, rfl, by unfold MessageLaw; decide +kernel⟩

/-- Takeover holds while the entry stays, on its last repeat in mid pass too; not when its lifetime or its last pass ends at this
frame start (R172, R177, R180). -/
theorem test_takeover : (ran (.outputFrameStart 540000 order) (sLast 2 2)).msgs.takeover = true ∧
    (ran (.outputFrameStart 540000 order) (sLast 1 2)).msgs.takeover = false ∧
    (ran (.outputFrameStart 540000 order) (sLast 2 1)).msgs.takeover = false := by decide +kernel

/-! ### The control channel -/

/-- The control channel examines ISO's packets when PGM is ABSENT and ISO is LOCKED. -/
def sIso : State := { s0 with iso := locked50, timing.op := .seeking }

theorem witness_HealthCounter :
    s0.control.health ≤ 511 ∧ step { s0 with pending := [.pause 3] } = .next (ran (.pause 3) s0) ∧ sIso.quiet ∧
      exec (.packetArrival 9 .iso hornPacket) sIso = .next (ran (.packetArrival 9 .iso hornPacket) sIso) ∧
      examined sIso .iso hornPacket = true ∧ readPacket? hornPacket = some ⟨0, 0, 37, [1, 0xF4]⟩ ∧
      examined sIso .pgm hornPacket = false ∧ examined sIso .iso [0xB5, 0x4E] = true ∧
      readPacket? [0xB5, 0x4E] = none ∧ s0.takes .controlReset :=
  ⟨by decide, rfl, ⟨rfl, rfl⟩, next_ran (by decide +kernel), by decide +kernel, by decide +kernel, by decide +kernel, by decide +kernel, rfl,
    ⟨rfl, rfl, rfl⟩⟩

theorem test_failed_check : (ran (.packetArrival 9 .iso [0xB5, 0x4E]) { sIso with control.health := 505 }).control.health = 511 := by
  decide +kernel

theorem witness_PacketRunsCommand :
    sIso.quiet ∧ examined sIso .iso hornPacket = true ∧ accepted sIso.unit ⟨0, 0, 37, [1, 0xF4]⟩ = true ∧
      accepted sIso.unit ⟨1, 0, 37, [1, 0xF4]⟩ = false ∧ kindOf? 37 = some .horn ∧ kindOf? 40 = none ∧
      decodePayload 9 .horn [1, 0xF4] = some (.horn 9 500) ∧ decodePayload 9 .horn [1] = none :=
  ⟨⟨rfl, rfl⟩, by decide +kernel⟩

/-- The packet of a HORN of 500 ms sounds the horn for 13,500,000 ticks from its arrival (R188). -/
theorem test_packet_horn : (ran (.packetArrival 9 .iso hornPacket) sIso).cues.horn = some 13500009 := by decide +kernel

theorem witness_HealthGate :
    healthOf 127 = .normal ∧ healthOf 128 = .guarded ∧ healthOf 255 = .guarded ∧ healthOf 256 = .isolated ∧
      healthOf 126 = ({ s0 with control.health := 127 } : State).health ∧ healthOf 135 ≠ ({ s0 with control.health := 127 } : State).health ∧
      healthOf 127 ≠ ({ s0 with control.health := 128 } : State).health ∧
      decodePayload 3 .load [14, 0, 3, 1, 3, 10, 1, 2, 0] = some (.load 3 14 3 1 3 [10, 1, 2, 0]) ∧
      ({ s0 with control.health := 128 } : State).health = .guarded ∧ { s0 with control.health := 128 }.quiet ∧
      decodePayload 3 .post [0, 7, 1, 1, 0xFF, 3, 0, 0x20, 0, 2, 0, 60] = some (.post 3 7 1 511 3 0 8192 2 60) ∧
      ({ s0 with control.health := 256 } : State).health = .isolated ∧ ([0, 7, 1] : List Byte)[2]? ≠ some 0 := by
  unfold State.quiet; decide +kernel

/-- An accepted packet restarts the timer of 30 s, clears the unattended flag and queues a STATUS report, into which the one that its
STATUS_REQUEST asks for coalesces (R39, R42, R43). -/
theorem test_attend :
    let u := ran (.packetArrival 9 .pgm (writePacket ⟨0xFFF, 0, 3, []⟩)) { sLive with control.unattended := true }
    u.control.unattended = false ∧ u.control.unattendedTimer = some 810000009 ∧
      u.control.queue = [⟨.status, 0, 0, 1, []⟩] := by decide +kernel

theorem witness_EncodeDecode :
    (Instr.load 9 14 3 1 3 [10, 1, 2, 0]).wellFormed = true ∧
      encodePayload (.load 9 14 3 1 3 [10, 1, 2, 0]) = some (.load, [14, 0, 3, 1, 3, 10, 1, 2, 0]) ∧
      (Instr.assetData 9 5 7 (List.replicate 241 1)).wellFormed = true := by decide +kernel

theorem witness_PacketRoundTrip :
    (⟨0, 0, 4, List.replicate 248 1⟩ : Packet).payload.length ≤ 248 ∧
      ((0xFF : Byte) ++ (0x48 : Byte) : BitVec 16) ≠ crc16 (((writePacket ⟨0, 0, 37, [1, 0xF4]⟩).drop 2).take 8) := by decide +kernel

/-- Padding bytes: byte 0 of DEVICE's entry 6 and the last byte of a LANES entry, the second entry from 3; byte 1 of DEVICE's entry 6
is none. -/
theorem witness_LoadSegment_fields :
    (3 : Nat) + ([1, 2] : List Byte).length ≤ (zeros 5).length ∧
    (6 + 0 / entrySize tblDevice.val = 6 ∧ 0 % entrySize tblDevice.val = 0 ∧ 1 % entrySize tblDevice.val ≠ 0) ∧
    37 ≤ 79 % entrySize tblLanes.val ∧ be 1 32 = [32] ∧ 15 < (16 : Byte).toNat := by decide +kernel

/-- An OPEN load of the CONTACTS table. -/
def sOpen : State := s0.setLoad 14 (.opened s0.active[(14 : Fin 15)] 100)

theorem witness_LoadSegment :
    s0.takes .load ∧ loadFits 14 2 [10, 1, 2, 0] = false ∧ loadFits 14 1 [10, 1, 2, 0] = true ∧ (14 : Byte).toNat = (14 : Fin 15).val ∧
      loadFits 15 0 [] = true ∧ 14 < (15 : Byte).toNat ∧ tableEntries 14 < (4 : BitVec 16).toNat + (1 : Byte).toNat ∧
      (3 : BitVec 16).toNat + (1 : Byte).toNat ≤ tableEntries 14 ∧ (2 : Byte).getLsbD 0 = false ∧ (3 : Byte).getLsbD 0 = true ∧
      s0.control.loads[(14 : Fin 15)] = .idle ∧
      sOpen.control.loads[(14 : Fin 15)] = .opened s0.active[(14 : Fin 15)] 100 :=
  ⟨⟨rfl, rfl, rfl⟩, by decide +kernel⟩

/-- The last CONTACTS entry loaded whole with its LAST flag. -/
theorem test_load : (ran (.load 9 14 3 1 3 [20, 1, 2, 0]) s0).control.loads[(14 : Fin 15)] =
    .complete [10, 0, 0, 0, 10, 0, 0, 0, 10, 0, 0, 0, 20, 1, 2, 0] := by decide +kernel

theorem witness_ReadTableAndStatus :
    s0.takes .readTable ∧ 15 < (16 : Byte).toNat ∧ (15 : Byte).toNat ≤ 15 ∧ tableEntries 15 < (128 : BitVec 16).toNat + (1 : Byte).toNat ∧
      (127 : BitVec 16).toNat + (1 : Byte).toNat ≤ tableEntries 15 ∧ s0.control.readback = none ∧ s0.control.queue.length < 128 ∧
      { s0 with control.readback := some ⟨0, 0, 4, 0⟩ }.control.readback ≠ none ∧ s0.takes .statusRequest ∧
      (∃ r ∈ { s0 with control.queue := [⟨.status, 0, 0, 0, []⟩] }.control.queue, r.kind = .status ∧ r.topic = 0 ∧ r.item = 0) ∧
      (let q := (List.range 128).map fun k => (⟨.event, 9, k, 0, []⟩ : Report)
       128 ≤ q.length ∧ ∀ r ∈ q, r.kind ≠ .status ∧ ¬ (r.kind = .readback ∧ r.topic = 15 ∧ r.item = 0)) :=
  ⟨⟨rfl, rfl, rfl⟩, by decide, by decide, by decide, by decide, rfl, by decide, by decide, ⟨rfl, rfl, rfl⟩, by decide,
    by decide +kernel⟩

/-- Two segments of the CONTACTS table read back (R37). -/
theorem test_read_table : (ran (.readTable 9 14 2 2) s0).control.queue = [⟨.readback, 14, 0, 0, [10, 0, 0, 0, 10, 0, 0, 0]⟩] := by
  decide +kernel

/-- COMPLETE loads of DEVICE and SEGMENTS, and of CONTACTS. -/
def sComplete : State :=
  ((s0.setLoad 0 (.complete s0.active[(0 : Fin 15)])).setLoad 2 (.complete s0.active[(2 : Fin 15)])).setLoad 14
    (.complete [20, 0, 0, 0, 10, 0, 0, 0, 10, 0, 0, 0, 10, 0, 0, 0])

theorem witness_CommitLaw :
    (∀ t o, Instr.pause 3 ≠ .outputFrameStart t o) ∧ (∀ p, Instr.pause 3 ≠ .deviceReset p) ∧
      exec (.pause 3) s0 = .next (ran (.pause 3) s0) ∧ sComplete.quiet ∧
      exec (.outputFrameStart 540000 order) sComplete = .next (ran (.outputFrameStart 540000 order) sComplete) ∧
      (ran (.outputFrameStart 540000 order) sComplete).active[(14 : Fin 15)] ≠ sComplete.active[(14 : Fin 15)] ∧
      (∃ j ∈ groupTables, j < 2 ∧ sComplete.loadComplete j = true) ∧
      (let u := ran (.outputFrameStart 540000 order) (s0.setLoad 7 (.complete [0, 64, 0, 0]))
       u.ringSlots = 64 ∧ u.ringSlots ≠ s0.ringSlots) :=
  ⟨nofun, nofun, rfl, ⟨rfl, rfl⟩, rfl, by decide +kernel⟩

/-- A valid and an invalid staging copy of a table, COMPLETE. -/
def sLoad (id : Fin 15) (staging : List Byte) : State := s0.setLoad id (.complete staging)

theorem witness_CommitsTaken :
    let contacts := s0.active[tblContacts]
    (sLoad 14 contacts).quiet ∧ (sLoad 14 contacts).timing.schedule.head? = some 540000 ∧
      (sLoad 14 contacts).control.loads[(14 : Fin 15)] = .complete contacts ∧
      firstInvalid (sLoad 14 contacts) 14 contacts = none ∧ firstInvalid s0 14 (overwrite contacts 8 [0]) = some 2 ∧
      (sLoad 14 contacts).unarmed ∧ (sLoad 14 contacts).still ∧ (∀ j, j ≠ 14 → (sLoad 14 contacts).loadComplete j = false) ∧
      s0.control.queue = [] ∧ s0.control.statusCount + 1 < s0.unit.statusInterval ∧
      (∀ i ∈ [InputId.pgm, .iso], (s0.receiver i).isLocked = true → (s0.receiver i).feed = .live) ∧
      (sComplete.control.loads[(0 : Fin 15)] = .complete s0.active[(0 : Fin 15)] ∧
        ∀ j ∈ groupTables, j < 0 → sComplete.loadComplete j = false) := by
  unfold State.quiet State.unarmed State.still; decide +kernel

/-- The tables with effects of their own: a valid copy that changes what the effects look at. MEMORY late or early finds the player
IDLE. -/
theorem witness_CommitsTaken_effects :
    firstInvalid s0 1 (overwrite s0.active[tblUnit] 16 (be 4 5)) = none ∧
      (unitOf (overwrite s0.active[tblUnit] 16 (be 4 5))).timeoutS ≠ s0.unit.timeoutS ∧
      firstInvalid s0 7 [0, 64, 0, 0] = none ∧ ringSlotsOf [0, 64, 0, 0] ≠ s0.ringSlots ∧
      firstInvalid { s0 with
        replay.player := (playerFrame 540000 { s0 with msgs := (messageStages 540000 (selectLayout s0)).msgs }).replay.player
        assets := (messageStages 540000 (selectLayout s0)).assets } 7 [0, 64, 0, 0] = none ∧
      firstInvalid ((List.finRange 4).foldl (clockStages 540000) s0) 8 (overwrite s0.active[tblClocks] 1 [1]) = none ∧
      (clockCfgAt (overwrite s0.active[tblClocks] 1 [1]) 0).console = true ∧ (s0.clockCfg 0).console = false ∧
      firstInvalid s0 10 (overwrite s0.active[tblContracts] 0 (be 4 9)) = none ∧
      (contractAt (overwrite s0.active[tblContracts] 0 (be 4 9)) 0).key ≠ (s0.contract 0).key ∧
      firstInvalid s0 11 (overwrite s0.active[tblLanes] 0 [1, 5]) = none ∧
      firstInvalid s0 13 (overwrite s0.active[tblCues] 0 [1]) = none ∧ s0.unarmed ∧ s0.loadComplete tblCues = false := by
  unfold State.unarmed; decide +kernel

/-- COMMIT_DONE, and COMMIT_REJECTED with the first invalid entry, wait behind the slot; the rejected copy is not taken (R33). -/
theorem test_commit_reports :
    (ran (.outputFrameStart 540000 order) (sLoad 14 s0.active[tblContacts])).control.queue = [⟨.event, 0, 14, 0, [14]⟩] ∧
      (let u := ran (.outputFrameStart 540000 order) (sLoad 14 (overwrite s0.active[tblContacts] 8 [0]))
       u.control.queue = [⟨.event, 1, 14, 0, [14, 0, 2]⟩] ∧ u.active[tblContacts] = s0.active[tblContacts]) := by decide +kernel

/-- First invalid entries at the edges of the ranges: a canvas of 512 and of 513 tiles, or narrower than segment 0 (R20); an unattended
timeout of 4 s and an address of FFFh (R44); segment 0 past the canvas (R63); a zone kind above 8 (R60); a deadband above S (R127);
the index 7 of a SCORE field (R135); a second use of a key (R147); a list position of 64 (R150); a template strip of 512 (R182); a
trigger kind of 9 (R189); and a filter time of 51 ms (R187). -/
theorem test_invalid_entries :
    let put := fun (id : Fin 15) (off : Nat) (bs : List Byte) => firstInvalid s0 id (overwrite s0.active[id] off bs)
    put 0 0 (be 4 512) = none ∧ put 0 0 (be 4 513) = some 0 ∧ put 0 0 (be 4 239) = some 0 ∧ put 1 16 (be 4 4) = some 4 ∧
      put 1 0 (be 4 0xFFF) = some 0 ∧ put 2 5 [0, 241] = some 0 ∧ put 3 7 [9] = some 0 ∧ put 7 0 [14, 0] = none ∧
      put 7 0 [14, 64] = some 0 ∧ put 8 17 (be 4 13500001) = some 0 ∧
      put 9 (208 + 16) ([1, 7] ++ List.replicate 6 0 ++ [1]) = some 1 ∧
      put 10 0 (be 4 5 ++ (s0.active[tblContracts].drop 4).take 28 ++ be 4 5) = some 1 ∧ put 11 0 [1, 64] = some 0 ∧
      put 12 16 [1, 0, 1, 1, 2, 0] = some 1 ∧ put 13 2 [9] = some 0 ∧ put 14 4 [51] = some 1 := by decide +kernel

theorem test_commit : byteAt (ran (.outputFrameStart 540000 order) sComplete).active[(14 : Fin 15)] 0 = 20 := by decide +kernel

/-- Two reports wait. -/
def sReports : State := { s0 with control.queue := [⟨.event, 9, 1, 0, [1]⟩, ⟨.refusal, 0, 6, 0, [7, 6]⟩] }

theorem witness_ReportLawKept : ReportLaw sReports ∧
    step { sReports with pending := [.statusRequest 3] } = .next (ran (.statusRequest 3) sReports) :=
  ⟨by unfold ReportLaw; decide +kernel, rfl⟩

/-- A readback of CONTACTS with its first chunk in the queue and that many bytes left. -/
def sChunk (left : Nat) : State :=
  { s0 with control.queue := [⟨.readback, 14, 0, 0, [1]⟩], control.readback := some ⟨14, 0, left, 0⟩ }

/-- The status frame count one below the interval, where it returns to 0 with a STATUS, and two below it, where it rises (R42). -/
theorem witness_ReportSlot_count :
    let at28 := { s0 with control.statusCount := 28 }
    let at29 := { s0 with control.statusCount := 29 }
    at28.control.statusCount + 1 < at28.unit.statusInterval ∧ at29.unit.statusInterval ≤ at29.control.statusCount + 1 ∧
      (countFrame at28).control.statusCount = 29 ∧ (countFrame at28).control.queue = [] ∧
      (countFrame at29).control.statusCount = 0 ∧ (countFrame at29).control.queue = [⟨.status, 0, 0, 0, []⟩] := by decide +kernel

theorem witness_ReportSlot :
    s0.control.queue = [] ∧ ReportLaw sReports ∧
      sReports.control.queue = [⟨.event, 9, 1, 0, [1]⟩] ++ ⟨.refusal, 0, 6, 0, [7, 6]⟩ :: [] ∧
      (∀ x ∈ [(⟨.event, 9, 1, 0, [1]⟩ : Report)], ReportKind.refusal.rank < x.kind.rank) ∧
      ReportLaw { s0 with control.queue := [⟨.status, 0, 0, 0, []⟩] } ∧
      ReportLaw (sChunk 56) ∧ (sChunk 56).control.queue = [] ++ ⟨.readback, 14, 0, 0, [1]⟩ :: [] ∧
      (sChunk 57).control.readback = some ⟨14, 0, 57, 0⟩ ∧ s0.control.readback = none :=
  ⟨rfl, by unfold ReportLaw; decide +kernel, rfl, by decide, by unfold ReportLaw; decide +kernel,
    by unfold ReportLaw; decide +kernel, rfl, rfl, rfl⟩

/-- A full queue: 127 EVENTs and one more report. -/
def sFullQueue (last : Report) (readback : Option Readback) : State :=
  { s0 with control := { s0.control with
      queue := ((List.range 127).map fun k => ⟨.event, 9, k, 0, []⟩) ++ [last], readback := readback } }

/-- Each clause on a raised report: one that is pending already, room for one more, a full queue of no larger rank number, one whose
newest report of the largest rank number is a STATUS, and one where it is a READBACK chunk, with no readback, with 56 bytes left and
with 57. -/
theorem witness_ReportSlot_raise :
    (∃ r ∈ sReports.control.queue, r.kind = .refusal ∧ r.topic = 0 ∧ r.item = 6) ∧
    (∀ r ∈ sReports.control.queue, ¬ (r.kind = .refusal ∧ r.topic = 0 ∧ r.item = 7)) ∧ sReports.control.queue.length < 128 ∧
    (let last : Report := ⟨.status, 0, 0, 0, []⟩
     let chunk : Report := ⟨.readback, 14, 0, 0, [1]⟩
     let events := (List.range 127).map fun k => (⟨.event, 9, k, 0, []⟩ : Report)
     (sFullQueue last none).control.queue = events ++ last :: [] ∧ (sFullQueue chunk none).control.queue = events ++ chunk :: [] ∧
       128 ≤ (sFullQueue last none).control.queue.length ∧ (∀ r ∈ events, ¬ (r.kind = .event ∧ r.topic = 9 ∧ r.item = 127)) ∧
       (∀ r ∈ (sFullQueue last none).control.queue, r.kind.rank ≤ ReportKind.status.rank ∧
         ¬ (r.kind = .status ∧ r.topic = 0 ∧ r.item = 1)) ∧
       (∀ r ∈ events, r.kind.rank ≤ chunk.kind.rank ∧ ¬ (r.kind = .readback ∧ r.topic = 14 ∧ r.item = 0 + 1)) ∧
       ReportKind.event.rank < chunk.kind.rank ∧ (∀ r ∈ events, r.kind.rank ≤ last.kind.rank)) ∧
    (sFullQueue ⟨.readback, 14, 0, 0, [1]⟩ (some ⟨14, 0, 57, 0⟩)).control.readback = some ⟨14, 0, 57, 0⟩ ∧
    (sFullQueue ⟨.readback, 14, 0, 0, [1]⟩ (some ⟨14, 0, 56, 0⟩)).control.readback = some ⟨14, 0, 56, 0⟩ := by decide +kernel

/-- A second refusal of LAYOUT_SELECT takes the place of the first with REPEAT 1 (R39). An EVENT into a full queue of EVENTs is lost;
into one that ends in a chunk it takes the chunk's room, and the readback with 57 bytes left ends, its next chunk lost too (R37,
R40). -/
theorem test_raise :
    (raise .refusal 0 6 [4, 6] sReports).control.queue = [⟨.event, 9, 1, 0, [1]⟩, ⟨.refusal, 0, 6, 1, [4, 6]⟩] ∧
    (raise .event 9 200 [] (sFullQueue ⟨.event, 9, 127, 0, []⟩ none)).control.lost = 1 ∧
    (let u := raise .event 9 200 [] (sFullQueue ⟨.readback, 14, 0, 0, [1]⟩ (some ⟨14, 0, 57, 0⟩))
     u.control.queue.getLast? = some ⟨.event, 9, 200, 0, []⟩ ∧ u.control.queue.length = 128 ∧ u.control.readback = none ∧
      u.control.lost = 2) := by decide +kernel

/-- The last chunk ends the readback; the one before it is followed by the rest (R37). -/
theorem test_chunks : (takeSlot (sChunk 56)).control.readback = none ∧
    (takeSlot (sChunk 60)).control.readback = some ⟨14, 56, 4, 1⟩ := by decide +kernel

/-- The REFUSAL report of LAYOUT_SELECT with reason RANGE as it is sent (R38), the CHECK as the CRC of its body. -/
theorem test_report_packet : (reportPacket 5 ⟨.refusal, 0, 6, 0, [7, 6]⟩).take 12 =
    [0xB5, 0x4F, 0, 5, 2, 0, 0, 6, 0, 2, 7, 6] := by decide +kernel

theorem witness_UnattendedExpiry :
    s0.quiet ∧ due s0.control.unattendedTimer 9 = false ∧ { sQueue with control.unattendedTimer := some 9 }.quiet ∧
      due { sQueue with control.unattendedTimer := some 9 }.control.unattendedTimer 9 = true ∧ MessageLaw sQueue :=
  ⟨⟨rfl, rfl⟩, rfl, ⟨rfl, rfl⟩, by decide +kernel, by unfold MessageLaw; decide +kernel⟩

/-! ### Zones, layouts and composition -/

theorem test_layout_refused : (ran (.layoutSelect 5 4) s0).control.queue = [⟨.refusal, 0, 6, 0, [7, 6]⟩] := by decide +kernel

/-- A zone 4 columns wide and 2 rows high from column 8, row 6. -/
def zone : Zone := { enable := true, colBase := 9, colMask := 3, rowBase := 6, rowMask := 1, source := .program, offsetX := 0,
                     offsetY := 0, scale := 2 }

theorem witness_LayoutsAndZones :
    s0.takes .layoutSelect ∧ 3 < (4 : Byte).toNat ∧ (3 : Byte).toNat = (3 : Fin 4).val ∧
      zone.colMask = BitVec.ofNat 9 (2 ^ 2 - 1) ∧ zone.rowMask = BitVec.ofNat 8 (2 ^ 1 - 1) :=
  ⟨⟨rfl, rfl, rfl⟩, by decide, rfl, rfl, rfl⟩
theorem test_zone : zone.covers 11 7 = true ∧ zone.covers 12 7 = false ∧ zone.covers 8 6 = true ∧ zone.covers 8 8 = false := by
  decide +kernel

/-- With takeover set. -/
def sTakeover : State := { sQueue with msgs.takeover := true }

/-- After reset, zone 15 alone is enabled, and presentable when PGM has a picture. -/
theorem witness_LayoutsAndZones_tiles :
    s0.msgs.takeover = false ∧ sTakeover.msgs.takeover = true ∧
      ¬ (s0.zones[(14 : Fin 16)].enable = true) ∧
      (sLive.zones[(15 : Fin 16)].enable = true ∧
        presentable { sLive with pgm.frozen := some ⟨dot, 0⟩ } sLive.zones[(15 : Fin 16)] = true ∧
        sLive.zones[(15 : Fin 16)].covers 239 134 = true) := by decide +kernel

/-- A canvas of one tile, which zone 15 covers. -/
def sTile : State := withTable s0 0 (overwrite s0.active[(0 : Fin 15)] 0 (be 4 1 ++ be 4 1))

theorem witness_VisibleTilesAndAccrual :
    sTakeover.msgs.takeover = true ∧ (sTakeover.zones[(15 : Fin 16)]).isPanel = false ∧ [((0, 0) : Nat × Nat)].Nodup ∧
      ∀ c r, (c, r) ∈ [((0, 0) : Nat × Nat)] ↔ c < sTile.device.wTiles ∧ r < sTile.device.hTiles ∧
        (∃ n : Fin 4, sTile.segments[n].enable = true ∧ sTile.segments[n].x0 ≤ c ∧
          c < sTile.segments[n].x0 + sTile.segments[n].width ∧ sTile.segments[n].y0 ≤ r ∧
          r < sTile.segments[n].y0 + sTile.segments[n].height) ∧ ∃ z, ((buildMap sTile).layers c r).1 = .zone 15 z := by
  have w : sTile.device.wTiles = 1 := by decide +kernel
  have h : sTile.device.hTiles = 1 := by decide +kernel
  have top : ((buildMap sTile).layers 0 0).1 = .zone 15 sTile.zones[(15 : Fin 16)] := by decide +kernel
  refine ⟨by decide +kernel, by decide +kernel, by decide, fun c r => ⟨fun m => ?_, fun ⟨hc, hr, _⟩ => ?_⟩⟩
  · simp only [List.mem_singleton, Prod.mk.injEq] at m
    obtain ⟨rfl, rfl⟩ := m
    exact ⟨by omega, by omega, ⟨0, by decide +kernel⟩, _, top⟩
  · rw [w] at hc; rw [h] at hr
    have : c = 0 := by omega
    have : r = 0 := by omega
    subst c r; exact List.mem_singleton.mpr rfl

theorem test_visible_tiles : visibleTiles (buildMap sTile) sTile.segments 15 = 1 := by decide +kernel

theorem witness_CanvasLawKept : CanvasLaw s0 ∧ PinLaw s0 ∧
    step { s0 with pending := [.layoutSelect 3 1] } = .next (ran (.layoutSelect 3 1) s0) :=
  ⟨by unfold CanvasLaw; decide +kernel, List.Pairwise.nil, rfl⟩

/-- The compositor holds a pin on asset 3, DOOMED, which nothing names; the slate asset is asset 2, READY, which it has not pinned. -/
def sPins : State :=
  { withTable (sQueue.setAsset 3 { image 1 with state := .doomed }) 0 (overwrite s0.active[tblDevice] 28 (be 4 2)) with
    comp.pins := [3] }

theorem witness_LayoutsAndZones_pins :
    PinLaw sPins ∧ sPins.device.slateAsset = some 2 ∧ 2 ∉ sPins.comp.pins ∧ (sPins.assets.recs[(2 : AssetId)]).state = .ready ∧
      3 ∈ sPins.comp.pins ∧ 3 ∉ wantedAssets sPins ∧ (sPins.assets.recs[(4 : AssetId)]).state ≠ .ready :=
  ⟨List.pairwise_singleton _ _, by decide +kernel⟩

/-- The slate asset is pinned; the asset no longer wanted loses its last pin and is freed (R64, R79). -/
theorem test_pins : (updatePins sPins).comp.pins = [2] ∧ ((updatePins sPins).assets.recs[(2 : AssetId)]).pins = 3 ∧
    ((updatePins sPins).assets.recs[(3 : AssetId)]).state = .empty := by decide +kernel

/-! ### The asset store -/

/-- Two assets that hold blocks 0 and 2. -/
def held : List Asset := [image 0, { image 0 with firstBlock := 2 }]

theorem test_first_fit : firstFit 4 held 1 = some 1 ∧ firstFit 4 held 2 = none ∧ firstFit 5 held 2 = some 3 := by decide +kernel

theorem witness_AssetOpen :
    (1 ≤ 1 ∧ ∀ a ∈ held, 1 ≤ a.blocks) ∧ s0.takes .assetOpen ∧ 511 < (512 : BitVec 16).toNat ∧ 3 < (4 : Byte).toNat ∧ (511 : BitVec 16).toNat = (511 : AssetId).val ∧
      assetKind? (1 : Byte).toNat = some .strip ∧ AssetKind.strip.admits 32768 256 1 1 = true ∧
      AssetKind.strip.admits 32769 256 1 1 = false ∧ (s0.assets.recs[(511 : AssetId)]).state ≠ .doomed ∧
      (sQueue.assets.recs[(2 : AssetId)]).state = .ready ∧ 0 < (sQueue.assets.recs[(2 : AssetId)]).pins ∧
      firstFit 16 [] 17 = none ∧ firstFit 16 [] 16 = some 0 :=
  ⟨by decide, ⟨rfl, rfl, rfl⟩, by decide +kernel⟩

/-- Asset 1 LOADING, and a state in which its record reaches beyond the DRAM. -/
def sAsset : State := s0.setAsset 1 loadingImage
def sBeyond : State := s0.setAsset 1 { loadingImage with firstBlock := 524288 }

theorem witness_AssetLoad :
    s0.takes .assetData ∧ s0.takes .assetClose ∧ segmentFits [] = false ∧ segmentFits [3, 4] = true ∧
      511 < (512 : BitVec 16).toNat ∧ (1 : BitVec 16).toNat = (1 : AssetId).val ∧
      (s0.assets.recs[(1 : AssetId)]).state ≠ .loading ∧ (sAsset.assets.recs[(1 : AssetId)]).state = .loading ∧
      (2 : BitVec 40).toNat = (sAsset.assets.recs[(1 : AssetId)]).received ∧
      (sAsset.assets.recs[(1 : AssetId)]).dataSize < (sAsset.assets.recs[(1 : AssetId)]).received + [3, 4, 5].length ∧
      (sAsset.assets.recs[(1 : AssetId)]).received + [3, 4].length ≤ (sAsset.assets.recs[(1 : AssetId)]).dataSize ∧
      loadingImage.firstBlock * 65536 + loadingImage.received + [3, 4].length ≤ Config.dramBytes ∧
      Config.dramBytes < (sBeyond.assets.recs[(1 : AssetId)]).firstBlock * 65536 + 2 + [3, 4].length ∧
      (sAsset.assets.recs[(1 : AssetId)]).received ≠ (sAsset.assets.recs[(1 : AssetId)]).dataSize ∧
      s0.takes .assetDrop ∧ (2 : BitVec 16).toNat = (2 : AssetId).val ∧ (sQueue.assets.recs[(2 : AssetId)]).state = .ready ∧
      0 < (sQueue.assets.recs[(2 : AssetId)]).pins ∧ sAsset.quiet ∧ due (sAsset.assets.recs[(1 : AssetId)]).timer 100 = true ∧
      due (sAsset.assets.recs[(1 : AssetId)]).timer 99 = false := by
  unfold State.takes State.quiet; decide +kernel

/-- The last two bytes of a four-byte image are stored at addresses 2 and 3, and its check then closes it (R73, R74). -/
theorem test_asset_data : (ran (.assetData 9 1 2 [3, 4]) sAsset).assets.dram = [(2, 3), (3, 4)] ∧
    ((ran (.assetClose 10 1 (~~~ crc32Run 0xFFFFFFFF [1, 2, 3, 4])) (ran (.assetData 9 1 2 [3, 4]) sAsset)).assets.recs[(1 : AssetId)]).state
      = .ready := by decide +kernel


theorem witness_AssetLawKept : AssetLaw s0 ∧ DramLaw { s0 with assets.dram := [(2, 3), (5, 4)] } ∧
    step { s0 with pending := [.pause 3] } = .next (ran (.pause 3) s0) :=
  ⟨reset_assetLaw, by unfold DramLaw; decide +kernel, rfl⟩

theorem witness_AssetLoad_dram : Dram.wf [(2, 3), (5, 4)] = true ∧ ∀ c ∈ ([(2, 3), (5, 4)] : Dram), c.1 ≠ 4 := by decide +kernel
/-- A zero byte written over a listed one leaves the list. -/
theorem test_dram : Dram.write [(2, 3), (5, 4)] 4 [9, 0] = [(2, 3), (4, 9)] := by decide +kernel

/-- Asset 3 DOOMED under its last pin is freed by its release; asset 2 READY under two pins keeps one (R77, R79). -/
def sDoomed : State := sQueue.setAsset 3 { image 1 with state := .doomed }
theorem witness_AssetLoad_pins :
    (sDoomed.assets.recs[(2 : AssetId)]).state = .ready ∧ (s0.assets.recs[(2 : AssetId)]).state ≠ .ready ∧
      (sDoomed.assets.recs[(3 : AssetId)]).state = .doomed ∧ (sDoomed.assets.recs[(3 : AssetId)]).pins ≤ 1 := by decide +kernel
theorem test_releases : ((releasePin 3 sDoomed).assets.recs[(3 : AssetId)]).state = .empty ∧
    ((releasePin 2 sDoomed).assets.recs[(2 : AssetId)]).pins = 1 := by decide +kernel

/-! ### Replay -/

/-- A ring of two slots that holds frames 1 and 2 of PGM in LIVE, mark 1 VALID at frame 1, the gap count 2; the player idle, or
on mark 1 in its protected span. -/
def sRing (st : PlayerState) (present : Nat) : State :=
  { sLive with
    replay.ring := { slots := [none, none], writePos := 0, present := present, newest := some 2 }
    replay.recorder := { s0.replay.recorder with state := .recording, gap := 2, lastNumber := 2 }
    replay.marks := s0.replay.marks.set 1 (.valid ⟨1, none, 5⟩)
    replay.player := { s0.replay.player with state := st, mark := 1, position := 1 } }

theorem witness_Recorder :
    s0.takes .recordStart ∧ s0.takes .recordStop ∧ 1 < (2 : Byte).toNat ∧ (1 : Byte).toNat ≤ 1 ∧
      s0.replay.recorder.exhausted = false ∧ s0.ringSlots ≠ 0 ∧ (withTable s0 7 [0, 0, 0, 0]).ringSlots = 0 ∧
      { s0 with replay.recorder.exhausted := true }.replay.recorder.exhausted = true ∧ s0.replay.recorder.state = .idle ∧
      (ran (.recordStart 3 1) s0).replay.recorder.state = .wait ∧ (ran (.recordStart 3 0) sLive).replay.recorder.state = .recording ∧
      (sRing .idle 2).quiet ∧ (sRing .idle 2).replay.recorder.source = .pgm ∧ ((sRing .idle 2).receiver .pgm).lock ≠ .absent ∧
      classify ((sRing .idle 2).receiver .pgm) 540000 frame = .good .hz50 ∧
      (sRing .idle 1).replay.ring.present < (sRing .idle 1).replay.ring.slots.length ∧
      (sRing .idle 2).replay.ring.oldest = some 1 ∧ (sRing .idle 2).replay.guards 1 = false ∧
      (sRing .cued 2).replay.guards 1 = true := by
  unfold State.takes State.quiet; decide +kernel

/-- A good frame is frame 3: it is written over frame 1 and takes the mark to STALE with the gap of 2, or, that frame being
protected, it is missed and the recorder is HELD; with a slot empty it is written there (R88 to R90). -/
theorem test_recorder :
    (let u := (ran (.inputFrameStart 540000 .pgm frame) (sRing .idle 2)).replay
     u.recorder.lastNumber = 3 ∧ u.marks[(1 : Fin 16)] = .stale ⟨1, none, 5⟩ ∧ u.ring.has 1 = false ∧ u.ring.has 3 = true) ∧
    (let u := (ran (.inputFrameStart 540000 .pgm frame) (sRing .cued 2)).replay
     u.recorder.state = .held ∧ u.recorder.gap = 3 ∧ u.ring.has 1 = true ∧ u.recorder.lastNumber = 2) := by decide +kernel

theorem witness_MarkPoints :
    sMark.takes .markIn ∧ sMark.takes .markOut ∧ 15 < (16 : Byte).toNat ∧ (15 : Byte).toNat = (15 : Fin 16).val ∧
      (sPlayer .cued).replay.inUse 1 = true ∧ sMark.replay.inUse 1 = false ∧ sMark.replay.ring.has 0 = false ∧
      sMark.replay.ring.has 1 = true ∧ sMark.replay.ring.has 3 = true ∧ sMark.replay.ring.has 4 = false ∧
      s0.replay.ring.newest = none ∧ sMark.replay.ring.newest = some 3 ∧
      sMark.replay.marks[(1 : Fin 16)] = .valid ⟨1, some 2, 5⟩ ∧ sMark.replay.marks[(15 : Fin 16)] = .empty :=
  ⟨⟨rfl, rfl, rfl⟩, ⟨rfl, rfl, rfl⟩, by decide +kernel⟩

/-- A picture of 2,097,153 pixels is stored at half size; a half-size pixel averages those of its block that lie inside, a half
rounding up (R84). -/
theorem witness_Recorder_half : 2097152 < 2097153 * 1 ∧ 0 < (2097153 + 1) / 2 ∧ 0 < (1 + 1) / 2 := by decide
theorem test_half_size :
    halfPicture ⟨3, 1, [⟨1, 0, 0⟩, ⟨2, 0, 0⟩, ⟨9, 8, 7⟩]⟩ = ⟨2, 1, [⟨2, 0, 0⟩, ⟨9, 8, 7⟩]⟩ := by decide +kernel

theorem test_mark_out_order : (ran (.markOut 9 2 0 1) (ran (.markIn 8 2 0 2 5) sMark)).control.queue =
    [⟨.refusal, 0, 14, 0, [8, 14]⟩] := by decide +kernel

theorem witness_MarkClear :
    (sPlayer .cued).takes .markClear ∧ (sPlayer .cued).quiet ∧ (sPlayer .cued).takes .playerStop ∧ 15 < (16 : Byte).toNat ∧
      (1 : Byte).toNat = (1 : Fin 16).val ∧ (sPlayer .cued).replay.inUse 1 = true ∧ (sPlayer .cued).replay.inUse 2 = false :=
  ⟨⟨rfl, rfl, rfl⟩, ⟨rfl, rfl⟩, ⟨rfl, rfl, rfl⟩, by decide +kernel⟩

theorem test_mark_clear : (ran (.markClear 9 1) sMark).replay.marks[(1 : Fin 16)] = .empty := by decide +kernel

/-- A state in which the ring's figures and the marks agree. -/
theorem mark_law : MarkLaw sMark := by
  have h : ∀ m : Fin 16, (sMark.replay.marks[m]).validClip.all (fun c => sMark.replay.ring.has c.inPoint) = true := by
    decide +kernel
  refine ⟨by decide +kernel, by decide +kernel, by decide +kernel, fun m c hc => ?_⟩
  have := h m
  rw [hc] at this
  simpa [Mark.validClip] using this

theorem witness_MarkLawKept : MarkLaw sMark ∧
    step { sMark with pending := [.markClear 9 1] } = .next (ran (.markClear 9 1) sMark) := ⟨mark_law, rfl⟩

theorem witness_ProtectedSpanKept :
    MarkLaw sMark ∧ (∀ t o, Instr.pause 3 ≠ .outputFrameStart t o) ∧ (∀ p, Instr.pause 3 ≠ .deviceReset p) ∧
      exec (.pause 3) (sPlayer .playing) = .next (ran (.pause 3) (sPlayer .playing)) ∧
      (sPlayer .playing).replay.guards 1 = true ∧ (sPlayer .playing).replay.guards 3 = false ∧
      (sPlayer .playing).replay.ring.has 1 = true ∧ (sPlayer .playing).replay.marks[(1 : Fin 16)] = .valid ⟨1, some 2, 5⟩ ∧
      (sRing .paused 2).replay.marks[(1 : Fin 16)] = .valid ⟨1, none, 5⟩ ∧ (sRing .paused 2).replay.ring.newest = some 2 ∧
      (sRing .paused 2).replay.guards 2 = true ∧ (sRing .paused 2).replay.guards 3 = false :=
  ⟨mark_law, nofun, nofun, rfl, by decide +kernel⟩

theorem witness_PlayerCommands_state :
    (sPlayer .cued).replay.player.state ≠ .suspended ∧
      (sPlayer .cued).replay.marks[(sPlayer .cued).replay.player.mark] = .valid ⟨1, some 2, 5⟩ ∧
      (let r := { sPlayer .suspended with
          replay.player.remembered := some .cued, replay.marks := s0.replay.marks.set 1 (.stale ⟨1, none, 5⟩) }.replay
       r.player.state = .suspended ∧ r.player.remembered = some .cued ∧ r.marks[r.player.mark] = .stale ⟨1, none, 5⟩ ∧
         r.ring.newest = some 3 ∧ r.endFrame = 3) := by decide +kernel

theorem witness_PlayerCommands :
    sMark.takes .cue ∧ sMark.takes .play ∧ 15 < (16 : Byte).toNat ∧ 2 < (3 : Byte).toNat ∧ (1 : Byte).toNat = (1 : Fin 16).val ∧
      (2 : Byte) = (match EndAction.loop with | .hold => 0 | .stop => 1 | .loop => 2) ∧ sMark.replay.marks[(1 : Fin 16)] = .valid ⟨1, some 2, 5⟩ ∧
      sMark.replay.marks[(2 : Fin 16)] = .empty ∧
      (∀ st ∈ [PlayerState.idle, .cued, .playing, .paused], (sPlayer st).quiet ∧ (sPlayer st).health ≠ .isolated ∧
        (sPlayer st).replay.player.motion = st) ∧
      { sPlayer .suspended with replay.player.remembered := some .playing }.replay.player.motion = .playing ∧
      (-255 : BitVec 16).toInt = -255 ∧ (256 : BitVec 16).toInt = 256 := by
  unfold State.takes State.quiet; decide +kernel

/-- PLAY clamps its rate to 1–4 over 1–8 (R97). -/
theorem test_play : (ran (.play 9 1 0 9 2) sMark).replay.player.rateN = 1 ∧
    (ran (.play 9 1 0 9 2) sMark).replay.player.rateD = 8 := by decide +kernel

/-- The player PLAYING at frame `place` of the clip from 1 to 2, shown PLAYING in the frame before, at a rate of 1 over `d`, with an
end action. -/
def sPlaying (place d : Nat) (act : EndAction) : State :=
  { sMark with replay.player := { s0.replay.player with
      state := .playing, frameState := .playing, mark := 1, position := place, rateD := d, endAction := act } }

theorem witness_PlayerFrame :
    (∀ st ∈ [PlayerState.idle, .cued, .paused, .playing], (sPlayer st).replay.player.state = st ∧
      (sPlayer st).msgs.takeover = false ∧ { sPlayer st with msgs.takeover := true }.msgs.takeover = true) ∧
    { sPlayer .suspended with replay.player.remembered := some .paused }.replay.player.remembered = some .paused ∧
    (let p := (sPlaying 1 1 .loop).replay.player
     p.frameState = .playing ∧ p.reposition = false ∧ 1 ≤ p.rateD ∧ (p.phase + p.rateN) / p.rateD = 1) ∧
    (sPlaying 1 1 .loop).replay.endFrame - 1 = 1 ∧ (sPlaying 2 1 .loop).replay.endFrame - 2 = 0 := by decide +kernel

/-- At full rate frame 2 follows frame 1; at half rate frame 1 stays with phase 1; from frame 2, the out-point, a LOOP goes back to
the in-point and a HOLD pauses there (R101 to R103). -/
theorem test_player_frame :
    (playerFrame 9 (sPlaying 1 1 .loop)).replay.player.position = 2 ∧
    (playerFrame 9 (sPlaying 1 2 .loop)).replay.player.position = 1 ∧ (playerFrame 9 (sPlaying 1 2 .loop)).replay.player.phase = 1 ∧
    (playerFrame 9 (sPlaying 2 1 .loop)).replay.player.position = 1 ∧
    (playerFrame 9 (sPlaying 2 1 .hold)).replay.player.state = .paused := by decide +kernel

/-- A STEP of 255 from frame 1 stops at the out-point, frame 2 (R99). -/
theorem test_step_forward : (ran (.step 9 255) (sPlayer .cued)).replay.player.position = 2 := by decide +kernel

theorem witness_PlayerLawKept : PlayerLaw (sPlayer .playing) ∧
    step { sPlayer .playing with pending := [.pause 3] } = .next (ran (.pause 3) (sPlayer .playing)) :=
  ⟨by unfold PlayerLaw; decide +kernel, rfl⟩

/-! ### Clocks -/


/-- A stop 9 ticks after the reference time of a DOWN channel at 5 ticks expires it at its fifth tick (R120): the report
gives that instant, the value 0 and the value 5, and the horn sounds 1,500 ms from it (R112, R113, R107). -/
theorem test_clock_stop_expires : (ran (.clockStop 9 0) (sClock .running 5)).control.queue =
      [⟨.clock, 0, 0, 0, [0, 0, 0, 0, 0, 0, 5, 0, 0, 0, 0, 0, 0, 0, 0, 0, 5]⟩] ∧
    (ran (.clockStop 9 0) (sClock .running 5)).cues.horn = some 40500005 := by decide +kernel

/-- The CLOCK_EXPIRED trigger of that stop carries t_x and te; that of an expiry found by the advance carries t_x (R111, R120). -/
theorem test_expiry_triggers :
    (stopClock 9 9 0 (sClock .running 5)).cues.pendingTriggers = [⟨9, .clockExpired 0 5 (some 9)⟩] ∧
      (clockAdvance 540000 (sClock .running 5) 0).cues.pendingTriggers = [⟨540000, .clockExpired 0 5 none⟩] := by decide +kernel

/-- Channel 0 in CONSOLE mode. -/
def sConsole : State := withTable s0 8 (s0.active[(8 : Fin 15)].set 1 1)

theorem witness_ClockCommands :
    s0.takes .clockStart ∧ s0.takes .clockStop ∧ s0.quiet ∧ s0.health ≠ .isolated ∧ 3 < (4 : Byte).toNat ∧
      (3 : Byte).toNat = (3 : Fin 4).val ∧ (0 : Byte).toNat = (0 : Fin 4).val ∧
      ((sClock .running 5).clocks[(0 : Fin 4)]).state = .running ∧ ((sClock .expired 0).clocks[(0 : Fin 4)]).state = .expired ∧
      ((sClock .stopped 5).clocks[(0 : Fin 4)]).state = .stopped ∧
      elapsed 0 (later 4 0) < ((sClock .running 5).clockCfg 0).distanceFrom 5 ∧
      ((sClock .running 5).clockCfg 0).distanceFrom 5 ≤ elapsed 0 (later 5 0) ∧
      6000000 < (6000001 : BitVec 32).toNat ∧ (6000000 : BitVec 32).toNat ≤ 6000000 ∧ (1 : Byte).toNat ≤ 1 ∧
      (s0.clockCfg 0).console = false ∧ (sConsole.clockCfg 0).console = true := by
  unfold State.takes State.quiet; decide +kernel

/-- Channel 0 in CONSOLE mode in a state at a value, the last report at instant 0, with a pending report of `ms` that arrived then. -/
def sReport (st : ClockState) (v ms : Nat) (running : Bool) : State :=
  sConsole.setClock 0 { Clock.reset with
    state := st, value := v, lastReport := some 0, console := some ⟨ms, running, 0⟩ }

theorem witness_ConsoleAndDisplay :
    (s0.clockCfg 0).console = false ∧ (sConsole.clocks[(0 : Fin 4)]).console = none ∧
      ((sReport .running 269099100 10017 true).clockCfg 0).console = true ∧
      ((sReport .running 269099100 10017 true).clocks[(0 : Fin 4)]).console = some ⟨10017, true, 0⟩ ∧
      (sConsole.clockCfg 0).deadband = 27000 ∧ (sConsole.clockCfg 0).snap = 13500000 ∧ (sConsole.clockCfg 0).silenceMs = 2000 ∧
      elapsed 0 53999999 < 2000 * 27000 ∧ 2000 * 27000 ≤ elapsed 0 54000000 := by decide +kernel

/-- A report whose value now is 900,900 above the channel's becomes the pending correction, as at F0 of section 6.8; one 1 ms above it
none, and one 501 ms below it a snap (R116). Console silence of 2,000 ms makes the channel stale (R117). -/
theorem test_console :
    ((clockConsole 459000 (sReport .running 269099100 10017 true) 0).clocks[(0 : Fin 4)]).correction = 900900 ∧
    ((clockConsole 0 (sReport .running 27000000 1001 true) 0).clocks[(0 : Fin 4)]).correction = 0 ∧
    ((clockConsole 0 (sReport .running 27000000 499 true) 0).clocks[(0 : Fin 4)]).value = 13473000 ∧
    ((clockStale 53999999 (sReport .running 1 1 true) 0).clocks[(0 : Fin 4)]).stale = false ∧
    ((clockStale 54000000 (sReport .running 1 1 true) 0).clocks[(0 : Fin 4)]).stale = true := by decide +kernel

/-- CLOCK_SET above Vmax, 6,000,000 ms, is clamped to it (R121); CLOCK_ADJUST below 0 to 0 (R122). -/
theorem test_clock_clamped : ((ran (.clockSet 9 0 6000001) s0).clocks[(0 : Fin 4)]).value = 162000000000 ∧
    ((ran (.clockAdjust 9 0 (-1)) (sClock .stopped 5)).clocks[(0 : Fin 4)]).value = 0 := by decide +kernel

theorem clock_law : ClockLaw (sClock .running 540000) := by unfold ClockLaw; decide +kernel

theorem witness_ClockAdvance : ClockLaw (sClock .running 540000) ∧
    ((sClock .running 540000).clocks[(0 : Fin 4)]).state = .running ∧ ((sClock .running 5).clocks[(1 : Fin 4)]).state ≠ .running ∧
    (540000 : Int) - elapsed 0 539999 + 0 = 1 ∧ (540000 : Int) - elapsed 0 540000 + 0 = 0 :=
  ⟨clock_law, by decide +kernel⟩

/-- A frame of exactly the value left expires the channel; one tick less leaves one tick (R110, R111). -/
theorem test_clock_advance : ((clockAdvance 539999 (sClock .running 540000) 0).clocks[(0 : Fin 4)]).value = 1 ∧
    ((clockAdvance 540000 (sClock .running 540000) 0).clocks[(0 : Fin 4)]).state = .expired := by decide +kernel

theorem witness_ClockLawKept : ClockLaw (sClock .running 540000) ∧
    step { sClock .running 540000 with pending := [.clockStop 9 0] } = .next (ran (.clockStop 9 0) (sClock .running 540000)) :=
  ⟨clock_law, next_ran (c := .clockStop 9 0) (s := sClock .running 540000) (by decide +kernel)⟩

/-! ### Score -/

theorem witness_ScoreCommands :
    s0.quiet ∧ s0.health ≠ .isolated ∧ 15 < (16 : Byte).toNat ∧ (15 : Byte).toNat = (15 : Fin 16).val ∧
      (7 : Byte).toNat = (7 : Fin 16).val ∧ (0 ≤ (2 : BitVec 16).toInt ∧ (2 : BitVec 16).toInt ≤ 2) ∧ 2 < (3 : BitVec 16).toInt ∧
      ((-999 : BitVec 16).toInt = -999) ∧ ((1000 : BitVec 16).toInt = 1000) := by
  unfold State.quiet; decide +kernel

/-- A SCORE_SET of HOME_SCORE above 999 stores 999 and reports CLAMPED (R131, R132). -/
theorem test_score_clamped : (ran (.scoreSet 9 0 1000) s0).score.fields[(0 : Fin 16)] = 999 ∧
    (ran (.scoreSet 9 0 1000) s0).control.queue = [⟨.refusal, 0, 28, 0, [10, 28]⟩] := by decide +kernel

theorem witness_RangesKept : ScoreLaw s0 ∧ SponsorLaw s0 ∧ CounterLaw sLive ∧
    step { s0 with pending := [.scoreSet 9 0 1000] } = .next (ran (.scoreSet 9 0 1000) s0) ∧
    step { sLive with pending := [.pause 3] } = .next (ran (.pause 3) sLive) :=
  ⟨by unfold ScoreLaw; decide +kernel, by unfold SponsorLaw; decide +kernel,
    ⟨by decide +kernel, by decide +kernel, by decide +kernel, fun i => by cases i <;> decide +kernel⟩,
    next_ran (c := .scoreSet 9 0 1000) (s := s0) (by decide +kernel), rfl⟩

/-! ### Sponsors -/

/-- Contract 63 ACTIVE with key 7, a target of 1,000 tile-ms and 998 of them accrued; lane 0 shows it on 2 visible tiles. -/
def sContract : State :=
  { withTable (s0.setAccrual 63 { Accrual.vacant with state := .active, accrued := 998 }) 10
      (overwrite s0.active[(10 : Fin 15)] 2016 [0, 0, 0, 7, 0, 0, 0, 0, 3, 0xE8]) with
    sponsor.lanes := s0.sponsor.lanes.set 0 { s0.sponsor.lanes[(0 : Fin 8)] with contract := some 63, key := 7 },
    comp.visible := s0.comp.visible.set 4 ⟨.sponsor 0, 2⟩ }

/-- The settlement log holds `n` records. -/
def sLog (n : Nat) : State :=
  { sContract with sponsor.log := List.replicate n ⟨1, true, 2, 3, 4, 5, 6⟩ }

theorem witness_ContractCommands :
    sContract.quiet ∧ sContract.health ≠ .isolated ∧ 63 < (64 : Byte).toNat ∧ (63 : Byte).toNat = (63 : Fin 64).val ∧
      (s0.sponsor.accruals[(63 : Fin 64)]).state = .vacant ∧ (sContract.sponsor.accruals[(63 : Fin 64)]).state ≠ .vacant ∧
      healthGate (sLog 127).health .periodClose false = none ∧
      (sLog 127).sponsor.log.length ≤ 128 - (closing (sLog 127)).length ∧
      128 - (closing (sLog 128)).length < (sLog 128).sponsor.log.length := by
  unfold State.quiet; decide +kernel

theorem test_period_close : (ran (.periodClose 9) sContract).sponsor.log = [⟨63, false, 7, 0, 1000, 998, 1⟩] := by decide +kernel

theorem witness_SettleRemove : (sLog 127).takes .settleRemove ∧
    (ran (.settleRemove 9 126) (sLog 127)).sponsor.log = [⟨1, true, 2, 3, 4, 5, 6⟩] :=
  ⟨⟨rfl, rfl, rfl⟩, by decide +kernel⟩

theorem witness_VisibleTilesAndAccrual_paid : SponsorLaw sContract ∧ (sContract.sponsor.accruals[(63 : Fin 64)]).state = .active ∧
    (s0.sponsor.accruals[(63 : Fin 64)]).state = .vacant ∧
    ((accrue 27000 sContract).sponsor.accruals[(63 : Fin 64)]).accrued < Config.accountTop :=
  ⟨by unfold SponsorLaw; decide +kernel, by decide +kernel⟩

/-- Two tiles for one millisecond are two tile-ms, which meet the target; in a frame one tick shorter a remainder stays (R152,
R153). -/
theorem test_accrual : ((accrue 27000 sContract).sponsor.accruals[(63 : Fin 64)]) =
      { Accrual.vacant with state := .active, accrued := 1000, met := true, wall := 27000 } ∧
    ((accrue 26999 sContract).sponsor.accruals[(63 : Fin 64)]).remainder = 26998 := by decide +kernel

/-- READY image 2 is the first creative of contracts 0 and 1, both of category 5 with dwell 9; both are ACTIVE; lanes 0 and 1 list
contract 0 and contract 1, and lane 0 shows contract 0 with `left` frames left. -/
def sRotation (left : Nat) : State :=
  let contracts := fun key : Byte => [0, 0, 0, key] ++ zeros 16 ++ [5, 0, 0, 2, 0xFF, 0xFF, 0xFF, 0xFF, 0xFF, 0xFF, 0, 9]
  let lane := fun c : Byte => [1, c] ++ zeros 38
  let s := withTable (withTable sQueue 10 (overwrite s0.active[(10 : Fin 15)] 0 (contracts 1 ++ contracts 2))) 11
    (overwrite s0.active[(11 : Fin 15)] 0 (lane 0 ++ lane 1))
  let t := (s.setAccrual 0 { Accrual.vacant with state := .active }).setAccrual 1 { Accrual.vacant with state := .active }
  t.setLane 0 { t.sponsor.lanes[(0 : Fin 8)] with
    contract := some 0, key := 1, creative := some 2, framesLeft := left, pinned := some 2 }

theorem witness_SponsorLanes :
    (sRotation 1).dwellEnds 0 ∧ ¬ (sRotation 2).dwellEnds 0 ∧ (sRotation 1).msgs.takeover = false ∧
      ((sRotation 1).sponsor.lanes[(0 : Fin 8)]).contract = some 0 ∧ ((sRotation 1).contract 0).key = 1 ∧
      ((sRotation 1).contract 0).category = 5 := by
  unfold State.dwellEnds; decide +kernel

/-- With 2 frames left lane 0 keeps contract 0 and lane 1 is shut out by its category; with 1 frame left lane 0 chooses contract 0
anew, with its dwell of 9 and the list cursor on it (R155, R157, R159, R160). -/
theorem test_sponsor_lanes :
    (let u := sponsorStages (sRotation 2)
     (u.sponsor.lanes[(0 : Fin 8)]).framesLeft = 1 ∧ (u.sponsor.lanes[(1 : Fin 8)]).contract = none) ∧
    (let u := sponsorStages (sRotation 1)
     u.sponsor.lanes[(0 : Fin 8)] = ⟨some 0, 1, some 2, 9, some 0, some 2⟩) := by decide +kernel

/-- Lane 2 on FILL gives up its pin on the DOOMED asset 3, its last, and the asset is freed; lane 0, served anew with asset 2, takes
a pin on it and releases the old one (R79, R161). -/
theorem test_sponsor_pins :
    let s := (sRotation 1).setLane 2 { (sRotation 1).sponsor.lanes[(2 : Fin 8)] with pinned := some 3 }
    let u := sponsorStages { s with assets.recs := s.assets.recs.set 3 { image 1 with state := .doomed } }
    u.assets.recs[(3 : AssetId)] = Asset.empty ∧ u.assets.recs[(2 : AssetId)] = s.assets.recs[(2 : AssetId)] ∧
      (u.sponsor.lanes[(2 : Fin 8)]).pinned = none := by decide +kernel

theorem witness_SponsorSelection :
    ((sRotation 1).laneCfg 0).list = [0] ∧ ((sRotation 1).laneCfg 1).list = [1] ∧ eligible (sRotation 1) 0 0 = true ∧
      eligible (sRotation 1) 1 1 = false ∧ behind (sRotation 1) 0 = false ∧
      eligible (sRotation 1) 0 63 = false ∧ nextCreative (sRotation 1) 0 = some (0, 2) := by decide +kernel

/-- The worked sequence of section 8.9: contract 7 on channel 0, DOWN from 1,200 s and at 720 s, and contract 11 on 900 s of 3,600 s of
wall time. -/
def sPace : State :=
  let clocks := overwrite s0.active[tblClocks] 4 (be 5 32400000000)
  let seven := be 4 1 ++ be 6 1200000000 ++ be 6 20000000 ++ [0, 0]
  let eleven := be 4 2 ++ be 6 400000000 ++ be 6 5000000 ++ [1, 0] ++ be 2 3600
  let s := withTable (withTable s0 8 clocks) 10 (overwrite (overwrite s0.active[tblContracts] (32 * 7) seven) (32 * 11) eleven)
  ((s.setClock 0 { Clock.reset with frame := ⟨19440000000, .stopped, false⟩ }).setAccrual 7
    { Accrual.vacant with state := .active, accrued := 430000000 }).setAccrual 11
    { Accrual.vacant with state := .active, accrued := 88000000, wall := 24300000000 }

theorem witness_SponsorSelection_pace :
    (sPace.contract 7).wall = false ∧ (sPace.contract 7).channel = (0 : Fin 4).val ∧ (sPace.clockCfg 0).period ≠ 0 ∧
      (sPace.clockCfg 0).direction = .down ∧ (sPace.clockCfg 1).period = 0 ∧ (sPace.contract 11).wall = true ∧
      ((withTable sPace 8 (overwrite sPace.active[tblClocks] 0 [1])).clockCfg 0).direction = .up := by decide +kernel

theorem test_pace : deficit sPace 7 = 49992675 ∧ behind sPace 7 = true ∧ deficit sPace 11 = 12000000 ∧ behind sPace 11 = true := by
  decide +kernel

/-- Contract 0 one tile-ms short of a wall-paced target, with no slack, is behind its pace, and lane 0 chooses it without moving its
cursor. -/
theorem witness_SponsorSelection_behind :
    let s := (withTable (sRotation 1) 10 (overwrite (sRotation 1).active[(10 : Fin 15)] 4 [0, 0, 0, 0, 0, 8, 0, 0, 0, 0, 0, 0, 1, 0, 0, 1])).setAccrual
      0 { Accrual.vacant with state := .active, accrued := 7, wall := 27000000 }
    eligible s 0 0 = true ∧ behind s 0 = true ∧ laneChoice s 0 = some (0, none) := by decide +kernel

/-- Only lane 0 shows a contract. -/
theorem category_law : CategoryLaw (sRotation 2) := by
  have h : ∀ l : Fin 8, ((sRotation 2).sponsor.lanes[l]).contract ≠ none → l = 0 := by decide +kernel
  intro l k c d hlk hl hk
  exact absurd ((h l (by rw [hl]; exact Option.some_ne_none c)).trans (h k (by rw [hk]; exact Option.some_ne_none d)).symm) hlk

theorem witness_CategoryLawKept : CategoryLaw (sRotation 2) ∧
    step { sRotation 2 with pending := [.pause 3] } = .next (ran (.pause 3) (sRotation 2)) ∧ (sRotation 2).quiet ∧
    (sRotation 2).timing.schedule.head? = some 540000 ∧
    exec (.outputFrameStart 540000 order) (sRotation 2) = .next (ran (.outputFrameStart 540000 order) (sRotation 2)) :=
  ⟨category_law, rfl, ⟨rfl, rfl⟩, by decide +kernel, rfl⟩

/-! ### Messages -/

/-- The message queue full with entries of one class, tags 0 to 31, none of them showing; asset 2 is a READY image. -/
def sFull (c : MessageClass) : State :=
  { sQueue with msgs.queue := (List.range 32).map fun k => entry k c }

theorem witness_Post :
    s0.takes .post ∧ 2 < (3 : Byte).toNat ∧ 511 < (512 : BitVec 16).toNat ∧ 1 < (2 : Byte).toNat ∧ 15 < (16 : Byte).toNat ∧
      class? (2 : Byte).toNat = some .standard ∧ (2 : BitVec 16).toNat = (2 : AssetId).val ∧ (1 : Byte).toNat ≤ 1 ∧
      (15 : Byte).toNat ≤ 15 ∧ (3 : Byte).toNat ≤ 3 ∧ (∃ e ∈ sQueue.msgs.queue, e.tag = (2 : BitVec 16).toNat) ∧
      (∀ e ∈ sQueue.msgs.queue, e.tag ≠ (7 : BitVec 16).toNat) ∧ (sQueue.assets.recs[(2 : AssetId)]).state = .ready ∧
      (sQueue.assets.recs[(2 : AssetId)]).kind = .image ∧ (sQueue.assets.recs[(3 : AssetId)]).state = .empty ∧
      sQueue.msgs.queue.length < 32 ∧ 32 ≤ (sFull .standard).msgs.queue.length ∧
      (∀ e ∈ (sFull .standard).msgs.queue, ¬ (e.cls ≠ .standard)) ∧
      (sFull .standard).msgs.queue = (List.range 31).map (fun k => entry k .standard) ++ entry 31 .standard :: [] ∧
      (entry 31 .standard).cls = .standard ∧ (sFull .standard).msgs.showingIn 31 = none :=
  ⟨⟨rfl, rfl, rfl⟩, by decide +kernel⟩

/-- A LEAD entry into a queue full of STANDARD ones pushes out the last, tag 31 (R169). -/
theorem test_post_evicts : ((ran (.post 9 40 1 2 0 1 5 0 0) (sFull .standard)).msgs.queue.map (·.tag)).take 2 = [40, 0] ∧
    (ran (.post 9 40 1 2 0 1 5 0 0) (sFull .standard)).msgs.entry 31 = none := by decide +kernel

/-- A LEAD entry goes behind the EMERGENCY one and before the STANDARD one (R167, R168). -/
theorem test_post : (ran (.post 9 7 1 2 3 0 9000 1 0) sQueue).msgs.queue.map (fun e => (e.tag, e.pace)) =
    [(1, 5), (7, 8191), (2, 5)] := by decide +kernel

/-- Entry 2 shows in lane 0. -/
def sShowing : State :=
  { sQueue with msgs.lanes := sQueue.msgs.lanes.set 0 { MessageLane.idle with current := some 2 } }

theorem witness_WithdrawAndClear :
    sQueue.quiet ∧ sQueue.takes .clearClass ∧ MessageLaw sQueue ∧ (∀ e ∈ sQueue.msgs.queue, e.tag ≠ (7 : BitVec 16).toNat) ∧
      sQueue.msgs.entry (2 : BitVec 16).toNat = some (entry 2 .standard) ∧ sQueue.msgs.showingIn 2 = none ∧
      sShowing.msgs.showingIn 2 ≠ none ∧ 2 < (3 : Byte).toNat ∧ class? (2 : Byte).toNat = some .standard :=
  ⟨⟨rfl, rfl⟩, ⟨rfl, rfl, rfl⟩, by unfold MessageLaw; decide +kernel, by decide +kernel⟩

theorem test_withdraw : (ran (.withdraw 9 2) sShowing).msgs.queue.map (fun e => (e.tag, e.leaving)) =
    [(1, none), (2, some .withdrawn)] ∧ (ran (.withdraw 9 2) sQueue).msgs.queue.map (·.tag) = [1] := by decide +kernel

/-- Entry 2 shows in lane 0 with `left` frames left and `repeats` repeats left. -/
def sPass (left repeats : Nat) : State :=
  { sQueue with msgs.queue := [entry 1 .emergency, { entry 2 .standard with repeatsLeft := repeats }, entry 3 .standard],
                msgs.lanes := sQueue.msgs.lanes.set 0 { MessageLane.idle with current := some 2, framesLeft := left } }

theorem witness_MessagePasses :
    MessageLaw (sPass 2 0) ∧ (entry 1 .emergency).leaving = none ∧
      ((sPass 1 0).msgs.lane 0).current = some 2 ∧ (sPass 1 0).msgs.entry 2 = some { entry 2 .standard with repeatsLeft := 0 } ∧
      (sPass 1 1).msgs.entry 2 = some { entry 2 .standard with repeatsLeft := 1 } ∧ sTakeover.msgs.takeover = true ∧
      (sPass 2 0).msgs.takeover = false ∧ ((sPass 2 0).msgs.lane 1).current = none :=
  ⟨by unfold MessageLaw; decide +kernel, by decide +kernel⟩

/-- Outside takeover the stages of a frame start move the lanes and fill the idle ones (R173). -/
theorem test_message_stages :
    let s := { sPass 2 0 with msgs.queue := [entry 2 .standard] }
    (messageStages 9 s).msgs.takeover = false ∧ ((messageStages 9 s).msgs.lane 0).framesLeft = 1 ∧
      (messageStages 9 sQueue).msgs.takeover = true ∧ (messageStages 9 sQueue).msgs.emergency.current = some 1 ∧
      ((messageStages 9 sQueue).msgs.lane 0).current = none := by decide +kernel

/-- A dwell of 1 frame ends: on its last repeat the entry is removed, else it goes to the back of its class; a dwell of 2 goes on
(R177, R178). -/
theorem test_passes : (advanceLane 9 (sPass 1 1) 0).msgs.queue.map (·.tag) = [1, 3] ∧
    (advanceLane 9 (sPass 1 0) 0).msgs.queue.map (fun e => (e.tag, e.passes)) = [(1, 0), (3, 0), (2, 1)] ∧
    ((advanceLane 9 (sPass 2 0) 0).msgs.lane 0).framesLeft = 1 := by decide +kernel

/-- Entry 2, showing in lane 0 with WITHDRAWN as its leaving flag, departs with its event and trigger, and lane 0 is idle; entry 3
expires at age 1 (R170, R172, R173, R178). -/
def sLeaving : State :=
  { sShowing with msgs.queue := [entry 1 .emergency, { entry 2 .standard with leaving := some .withdrawn },
      { entry 3 .standard with lifetime := 1 }] }
theorem witness_MessagePasses_leaving : MessageLaw sLeaving ∧ sLeaving.msgs.showingIn 2 = some 0 :=
  ⟨by unfold MessageLaw; decide +kernel, by decide +kernel⟩
theorem test_departures :
    let u := lifetimes 9 (departures 9 sLeaving)
    u.control.queue = [⟨.event, 9, 2, 0, [0, 2, 2, 2, 0, 0]⟩, ⟨.event, 9, 3, 0, [0, 3, 2, 1, 255, 0]⟩] ∧
      u.cues.pendingTriggers = [⟨9, .messageDone 2 .withdrawn⟩, ⟨9, .messageDone 3 .expired⟩] ∧
      (u.assets.recs[(2 : AssetId)]).pins = 0 ∧ (u.msgs.lane 0).current = none := by decide +kernel

theorem witness_MessageLawKept : MessageLaw sQueue ∧
    step { sQueue with pending := [.withdraw 9 2] } = .next (ran (.withdraw 9 2) sQueue) :=
  ⟨by unfold MessageLaw; decide +kernel, next_ran (c := .withdraw 9 2) (s := sQueue) (by decide +kernel)⟩

/-! ### Pictures -/

/-- One tile, zone 15 showing PROGRAM over it, LIVE on a picture of one pixel; the slate colour is 1, 2, 3. -/
def sPicture : State :=
  { withTable sTile 0 (overwrite sTile.active[tblDevice] 24 [0, 1, 2, 3]) with timing.op := .live, pgm.frozen := some ⟨dot, 0⟩ }

/-- The player presents frame 1, a picture of one pixel, whose snapshot has every channel stale at 10 s, DOWN. -/
def sReplay : State :=
  { sPicture with
    replay.ring.slots := [some { number := 1, capture := 0, source := .pgm, picture := dot, reduced := false,
                                 snapshot := Vector.replicate 4 ⟨270000000, .running, .down, true⟩, gap := 0 }],
    replay.player.presented := some ⟨1, 0⟩ }

theorem witness_CanvasPictures :
    (∀ i, i < 5 → (0x1DF : BitVec 9).getLsbD i = true) ∧ (0x1DF : BitVec 9).getLsbD 5 = false ∧
      (∀ i, i < 8 → (0xFF : BitVec 8).getLsbD i = true) ∧ (0xFF : BitVec 8).getLsbD 8 = false ∧ zone.scale = 1 + 1 ∧
      sReplay.replay.player.presented = some ⟨1, 0⟩ ∧ (sReplay.replay.ring.frame 1).isSome = true ∧
      ((sRotation 1).sponsor.lanes[(0 : Fin 8)]).contract = some 0 ∧ ((sRotation 1).sponsor.lanes[(0 : Fin 8)]).creative = some 2 ∧
      ((sRotation 1).sponsor.lanes[(1 : Fin 8)]).contract = none ∧ ((sRotation 1).sponsor.lanes[(1 : Fin 8)]).pinned = none ∧
      sPins.device.slateAsset = some 2 ∧ (sPins.assets.recs[(2 : AssetId)]).kind = .image ∧
      (sPins.assets.recs[(2 : AssetId)]).state = .ready ∧ sPicture.device.slateAsset = none ∧
      sPicture.device.wTiles = 1 ∧ sPicture.device.hTiles = 1 ∧
      (sPicture.segments[(0 : Fin 4)]).enable = true ∧ (sPicture.segments[(1 : Fin 4)]).enable = false := by decide +kernel

/-- The one pixel of the program, and beside it, beyond the image, the slate colour (R49, R55). -/
theorem test_canvas : (sceneOf sPicture (buildMap sPicture)).canvas 0 0 = ⟨7, 8, 9, 255⟩ ∧
    (sceneOf sPicture (buildMap sPicture)).canvas 1 0 = ⟨1, 2, 3, 255⟩ := by decide +kernel

/-- A 2 × 2 block at the right edge of a picture one pixel wide: (200 + 0 + 100 + 0 + 2) / 4 = 75, its alpha (255 + 255 + 2) / 4 = 128
(R49). -/
theorem test_half_scale :
    ({ zone with scale := 1 } : Zone).draw ⟨1, 2, fun _ y => ⟨if y = 0 then 200 else 100, 0, 0, 255⟩⟩ 0 0 = ⟨75, 0, 0, 128⟩ := by
  decide +kernel

/-- A row of three cells at (4, 1) from digit set 3, with zeros in front, dashes when stale, and asset 2 as the home indicator. -/
def field (kind : Nat) : FieldCfg :=
  { kind := kind, index := 0, x := 4, y := 1, digitSet := some 3, digits := 3, zeroLead := true, format := 2, dashes := true,
    home := some 2, away := none }

/-- Asset 3 is a READY digit set of 28 × 2; panel 0 is 20 × 9 with asset 2 as its background; the frame copy has HOME_POINTS 7 and
POSSESSION HOME. -/
def sPanel : State :=
  { withTable (sReplay.setAsset 3 { image 0 with kind := .digitSet, width := 28, height := 2 }) 9
      (overwrite s0.active[tblPanels] 0 [0, 20, 0, 9, 0, 2]) with
    score.frameCopy := (s0.score.frameCopy.set 0 7).set 7 1, assets.recs := ((s0.assets.recs.set 2 (image 0)).set 3
      { image 0 with kind := .digitSet, width := 28, height := 2 }) }

/-- Entry 2 crawls in lane 0, one advance into its pass of the worked sequence of section 9.7: its strip is 48 high, the pass 64, and
zone 0 shows the lane in one tile. -/
def sCrawl : State :=
  { withTable sTile 3 (overwrite sTile.active[tblLayout 0] 0 [1, 0, 0, 0, 0, 0, 0, 5, 0, 0]) with
    assets.recs := s0.assets.recs.set 2 { image 1 with kind := .strip, width := 5120, height := 48 },
    msgs := { s0.msgs with
      queue := [{ entry 2 .standard with mode := .crawl, pace := 1024 }],
      lanes := s0.msgs.lanes.set 0
        { MessageLane.idle with current := some 2, passWidth := 3072, passHeight := 64, x := 785408 } } }

theorem witness_PanelAndLanePictures :
    (let dotPic : Pic := ⟨1, 1, fun _ _ => ⟨5, 6, 7, 255⟩⟩
     ([⟨dotPic, 1, 0⟩] : List Drawing) = [] ++ ⟨dotPic, 1, 0⟩ :: [] ∧ 0 ≤ (1 : Int) - 1 ∧ (1 : Int) - 1 < dotPic.width ∧
       0 < (dotPic.pixel 0 0).a) ∧
    (sPanel.assets.recs[(3 : AssetId)]).kind = .digitSet ∧ (sPanel.assets.recs[(3 : AssetId)]).state = .ready ∧
    (sPanel.assets.recs[(2 : AssetId)]).kind = .image ∧ (sPanel.assets.recs[(2 : AssetId)]).state = .ready ∧
    (s0.assets.recs[(3 : AssetId)]).state ≠ .ready ∧ (field 1).kind = 1 ∧ (field 2).kind = 2 ∧ (field 3).kind = 3 ∧ (field 4).kind = 4 ∧
    (field 1).index = (0 : Fin 16).val ∧ (field 2).index = (0 : Fin 4).val ∧ (field 0).kind = 0 ∧
    sPanel.replay.player.presented = some ⟨1, 0⟩ ∧ (sPanel.replay.ring.frame 1).isSome = true ∧
    s0.replay.player.presented = none ∧ sPanel.score.frameCopy[fieldPossession] = 1 ∧ s0.score.frameCopy[fieldPossession] = 0 ∧
    { s0 with score.frameCopy := s0.score.frameCopy.set 7 2 }.score.frameCopy[fieldPossession] = 2 ∧
    (panelAt sPanel.active[tblPanels] 0).background = some 2 ∧ (panelAt s0.active[tblPanels] 0).background = none ∧
    ((sCrawl.zones[(0 : Fin 16)]).enable = true ∧ (sCrawl.zones[(0 : Fin 16)]).source = .message 0) ∧
    (sCrawl.msgs.lane 0).current = some 2 ∧ (sCrawl.msgs.entry 2).isSome = true ∧ (sCrawl.msgs.lane 1).current = none :=
  ⟨⟨rfl, by decide, by decide, by decide⟩, by decide +kernel⟩

/-- HOME_POINTS 7 in three cells with zeros in front; a clock of 10 s in SST, and dashes where the snapshot is stale; the cells of a set
28 wide stand 2 apart (R139 to R142). -/
theorem test_field_rows :
    let sc := sceneOf sPanel (buildMap sPanel)
    sc.fieldRow (field 1) = [0, 0, 7] ∧ sc.fieldRow (field 2) = [0, 11, 0] ∧ sc.fieldRow (field 3) = [13, 13, 13] ∧
      (sc.fieldDrawings (field 1)).map (fun d => (d.x, d.y)) = [(4, 1), (6, 1), (8, 1)] ∧
      (sc.fieldDrawings (field 4)).map (fun d => (d.x, d.y)) = [(4, 1)] := by decide +kernel

/-- At S1 of section 9.7 the strip is drawn at 3,068, and 8 below the lane's top (R179); the lane's zone has a window of one tile
(R53). -/
theorem test_lane_picture : sCrawl.lanePicture 0 = ⟨8, 8, some ⟨2, 3068, 8⟩⟩ ∧ sCrawl.laneSize 1 = (0, 0) := by decide +kernel

/-! ### Cues, horn and contact lines -/


/-- A horn already sounding is never shortened (R188). -/
theorem test_horn : (ran (.horn 9 1) { s0 with cues.horn := some 30000 }).cues.horn = some 30000 ∧
    (ran (.horn 9 2) { s0 with cues.horn := some 30000 }).cues.horn = some 54009 := by decide +kernel

/-- Line 1 with a candidate for high since instant 3, filter expiry 270,003; unbound, and bound to channel 0. -/
def sEdge : State :=
  s0.setLine 1 { level := true, recognized := false, candidate := some ⟨true, 3, 270003⟩ }
def sBound : State := withTable sEdge 14 [10, 0, 0, 0, 10, 1, 0, 0, 10, 0, 0, 0, 10, 0, 0, 0]

theorem witness_HornAndContacts :
    s0.takes .horn ∧ 10000 < (10001 : BitVec 16).toNat ∧ 0 < (10000 : BitVec 16).toNat ∧ (10000 : BitVec 16).toNat ≤ 10000 ∧
      s0.cues.horn = none ∧ { s0 with cues.horn := some 5 }.cues.horn = some 5 ∧ s0.quiet ∧ s0.health ≠ .isolated ∧
      31 < (32 : Byte).toNat ∧ (31 : Byte).toNat = (31 : Fin 32).val ∧
      sEdge.quiet ∧ false = (s0.cues.lines[(1 : Fin 4)]).recognized ∧ true ≠ (s0.cues.lines[(1 : Fin 4)]).recognized ∧
      (s0.cues.lines[(1 : Fin 4)]).candidate = none ∧ (sEdge.cues.lines[(1 : Fin 4)]).candidate = some ⟨true, 3, 270003⟩ ∧
      reached 270003 270002 = false ∧ reached 270003 270003 = true ∧ (sEdge.contactCfg 1).channel = none ∧
      (sBound.contactCfg 1).channel = some 0 ∧ (sBound.contactCfg 1).activeLow = false := by
  unfold State.takes State.quiet; decide +kernel

/-- A request up to instant 9 is over at 9 and sounds at 8, with no horn and with one that ends at 7; a stop of a channel that does
not run, that runs past the stop, and that expires before it. -/
theorem witness_HornAndContacts_requests :
    reached 9 9 = true ∧ reached 9 8 = false ∧ s0.cues.horn = none ∧ { s0 with cues.horn := some 7 }.cues.horn = some 7 ∧
      ((sClock .stopped 5).clocks[(0 : Fin 4)]).state ≠ .running ∧ ((sClock .running 5).clocks[(0 : Fin 4)]).state = .running ∧
      elapsed 0 (later 4 0) < ((sClock .running 5).clockCfg 0).distanceFrom 5 ∧
      ((sClock .running 5).clockCfg 0).distanceFrom 5 ≤ elapsed 0 (later 5 0) := by decide +kernel

/-- A request that has ended sounds nothing; another lengthens the horn and never shortens it (R112, R188). -/
theorem test_horn_request :
    (hornRequest 9 ⟨1, 9, none⟩ s0).cues.horn = none ∧ (hornRequest 8 ⟨1, 9, none⟩ s0).cues.horn = some 9 ∧
      (hornRequest 8 ⟨1, 9, none⟩ { s0 with cues.horn := some 12 }).cues.horn = some 12 := by decide +kernel

/-- The recognized edge starts the bound channel from its edge time, instant 3 (R119, R185, R186). -/
theorem test_contact_start : ((ran (.contactFilterExpiry 270003 1) sBound).clocks[(0 : Fin 4)]).state = .running ∧
    ((ran (.contactFilterExpiry 270003 1) sBound).clocks[(0 : Fin 4)]).ref = 3 := by decide +kernel

/-- Cue 2, armed, EVERY: SCORE_CHANGED of HOME_SCORE adds 1 to AWAY_SCORE; it has fired in this frame, or not. -/
def sCue (fired : Option Time) : State :=
  { withTable s0 13 (overwrite s0.active[(13 : Fin 15)] 32 [1, 1, 2, 0, 0, 0, 10, 1, 0, 1]) with
    cues.records := s0.cues.records.set 2 { armed := true, fires := 4, firedFrame := fired } }

theorem witness_CueOncePerFrame :
    TriggerLaw (sCue (some 0)) ∧ (∀ t o, Instr.scoreSet 9 0 5 ≠ .outputFrameStart t o) ∧
      (∀ p, Instr.scoreSet 9 0 5 ≠ .deviceReset p) ∧
      exec (.scoreSet 9 0 5) (sCue (some 0)) = .next (ran (.scoreSet 9 0 5) (sCue (some 0))) ∧
      exec (.scoreSet 540000 0 5) (sCue (some 0)) = .next (ran (.scoreSet 540000 0 5) (sCue (some 0))) ∧
      ((sCue (some 0)).cues.records[(2 : Fin 32)]).firedFrame = some ((sCue (some 0)).frameOf 9) ∧
      ((sCue (some 0)).cues.records[(2 : Fin 32)]).firedFrame ≠ some ((sCue (some 0)).frameOf 540000) ∧
      exec (.outputFrameStart 540000 order) (sCue (some 0)) = .next (ran (.outputFrameStart 540000 order) (sCue (some 0))) :=
  ⟨rfl, nofun, nofun, next_ran (by decide +kernel), next_ran (by decide +kernel), by decide +kernel, by decide +kernel, rfl⟩

/-- A cue fires once for a score change, and its own action's trigger comes after (R190, R191, R192). -/
theorem test_cue_fires : (ran (.scoreSet 9 0 5) (sCue none)).score.fields[(1 : Fin 16)] = 1 ∧
    (ran (.scoreSet 9 0 5) (sCue (some 0))).score.fields[(1 : Fin 16)] = 0 := by decide +kernel

/-- A trigger at the very instant of the scheduled frame start counts for the frame that begins there, though that frame start has
not been taken yet: the cue that fired in frame 0 fires again, once (R191). -/
theorem test_cue_frame :
    (let u := ran (.scoreSet 540000 0 5) (sCue (some 0))
     u.score.fields[(1 : Fin 16)] = 1 ∧ (u.cues.records[(2 : Fin 32)]).firedFrame = some 540000 ∧
      (ran (.scoreSet 540000 0 6) (ran (.outputFrameStart 540000 order) u)).score.fields[(1 : Fin 16)] = 1) := by decide +kernel

theorem witness_CueFiring :
    (let g : Trigger := ⟨9, .scoreChanged 0 0 5⟩
     let s := { sCue none with cues.pendingTriggers := [g] }
     (s.cueCfg 2).action = 10 ∧ (s.cueCfg 2).trigger = 2 ∧ (s.cueCfg 2).index = 0 ∧ (s.cues.records[(2 : Fin 32)]).armed = true ∧
      cueFires s g 2 = true ∧ (∀ j : Fin 32, j ≠ 2 → cueFires s g j = false)) ∧
    (∀ i : Fin 32, cueFires { s0 with cues.pendingTriggers := [⟨9, .unattended⟩] } ⟨9, .unattended⟩ i = false) ∧
    (let g : Trigger := ⟨9, .unattended⟩
     let s := { withTable s0 13 (overwrite s0.active[(13 : Fin 15)] 0 [1, 1, 8, 0, 0, 0, 7, 3]) with
                  cues.records := s0.cues.records.set 0 { armed := true, fires := 0, firedFrame := none },
                  cues.pendingTriggers := [g] }
     cueFires s g 0 = true ∧ (∀ j : Fin 32, j ≠ 0 → cueFires s g j = false) ∧
      (fireCue g { s with cues.pendingTriggers := [] } 0).cues.pendingTriggers = [] ∧
      (settle s).comp.pendingLayout = some 3) := by decide +kernel

/-- Cues 0 and 1, armed, on UNATTENDED: LAYOUT 3 and LAYOUT 1. -/
def sTwoCues : State :=
  { withTable s0 13 (overwrite s0.active[(13 : Fin 15)] 0 ([1, 1, 8, 0, 0, 0, 7, 3] ++ zeros 8 ++ [1, 1, 8, 0, 0, 0, 7, 1])) with
    cues.records := (s0.cues.records.set 0 { armed := true, fires := 0, firedFrame := none }).set 1
      { armed := true, fires := 0, firedFrame := none },
    cues.pendingTriggers := [⟨9, .unattended⟩, ⟨9, .playerEnded⟩] }

theorem witness_CueFiring_several :
    sTwoCues.cues.pendingTriggers = ⟨9, .unattended⟩ :: [⟨9, .playerEnded⟩] ∧
      cueFires sTwoCues ⟨9, .unattended⟩ 0 = true ∧ cueFires sTwoCues ⟨9, .unattended⟩ 1 = true := by decide +kernel

theorem witness_CueFiring_owners :
    s0.quiet ∧ s0.health ≠ .isolated ∧ s0.takes .post (decide ((0 : Byte) = 0)) := by
  unfold State.takes State.quiet; decide +kernel

/-- Both fire for one trigger, in number order: the later selection stands (R59, R191). -/
theorem test_two_cues : (settle sTwoCues).comp.pendingLayout = some 1 ∧
    ((settle sTwoCues).cues.records[(0 : Fin 32)]).fires = 1 ∧ (settle sTwoCues).cues.pendingTriggers = [] := by decide +kernel

/-! ### The spec's worked sequences -/

/-- The stripes of section 3.10: the local pixel of tile column 200, row 2, and the blend of a creative over the program. -/
theorem worked_stripes :
    ({ zone with colBase := 0, colMask := 0x1DF, rowBase := 0, rowMask := 0xFF } : Zone).local 1605 19 = (69, 19) ∧
      ({ zone with colBase := 128, colMask := 0x07F, rowBase := 0, rowMask := 0xFF } : Zone).local 1605 19 = (581, 19) ∧
      blendChannel 192 200 10 = 153 ∧ blendChannel 192 40 10 = 33 := by decide +kernel

/-- The block counts of section 4.8. -/
theorem worked_blocks : blocksFor 8294400 = 127 ∧ blocksFor 1966080 = 30 ∧ blocksFor 25165824 = 384 := by decide +kernel

/-- The first corrected frame of section 6.8, and the expiry instant of section 6.9. -/
theorem worked_clock : slewStep 900900 450450 = 28153 ∧ (s0.clockCfg 0).moved 269099100 450450 28153 = 268676803 ∧
    expiryInstant 2000000000 300000 450450 460450 = 2000293485 := by decide +kernel

/-- The rows of section 7.6: cell 10 is the colon, 11 the point and 12 blank. -/
theorem worked_rows :
    rowOf 3 false (numberCells 7) = [12, 12, 7] ∧ rowOf 2 true (numberCells 2) = [0, 2] ∧
      rowOf 5 false (clockCells 0 .down 600 1618650000) = [12, 1, 10, 0, 0] ∧
      rowOf 5 false (clockCells 0 .down 600 1617300000) = [12, 5, 9, 11, 9] := by decide +kernel

/-- The two frame starts of section 8.10. -/
theorem worked_accrual :
    ({ Accrual.vacant with accrued := 430000000 }.paid 608107500).accrued = 430022522 ∧
      ({ Accrual.vacant with accrued := 430000000 }.paid 608107500).remainder = 13500 ∧
      (({ Accrual.vacant with accrued := 430000000 }.paid 608107500).paid 608107500).accrued = 430045045 ∧
      (({ Accrual.vacant with accrued := 430000000 }.paid 608107500).paid 608107500).remainder = 0 := by decide +kernel

end Sys2Proof.Tests
end

section
/-! SUPPORT. What leaves the frame timing unit as it is: the stops and releases of a control reset, the cue actions, and so
the cue unit's taking of the waiting triggers (R46, R191, R192). -/

namespace Sys2Proof.Machine

/-- A fold whose steps leave the frame timing unit as it is leaves it as it is. -/
theorem foldl_timing {α : Type} (f : State → α → State) (step : ∀ s a, (f s a).timing = s.timing) (l : List α) (s : State) :
    (l.foldl f s).timing = s.timing :=
  foldl_keeps (fun u => u.timing = s.timing) f (fun u a h => (step u a).trans h) l s rfl

/-! ### The replay unit, the asset store and the control channel -/

@[simp] theorem playerStop_timing (s : State) : (playerStop s).timing = s.timing := by
  unfold playerStop; split <;> rfl

@[simp] theorem recorderStop_timing (s : State) : (recorderStop s).timing = s.timing := by
  unfold recorderStop; split <;> rfl

theorem playOp_timing (mark n d e : Nat) (s : State) : (playOp mark n d e s).state.timing = s.timing := by
  unfold playOp
  split
  · split <;> rfl
  · rfl

theorem abandonAsset_timing (report : Bool) (s : State) (id : AssetId) : (abandonAsset report s id).timing = s.timing := by
  unfold abandonAsset
  dsimp only
  split
  · cases report <;> simp [failedEvent]
  · rfl

@[simp] theorem abandonAssets_timing (report : Bool) (s : State) : (abandonAssets report s).timing = s.timing :=
  foldl_timing _ (abandonAsset_timing report) _ s

theorem abandonLoad_timing (report : Bool) (s : State) (id : Fin 15) : (abandonLoad report s id).timing = s.timing := by
  unfold abandonLoad
  split
  · rfl
  · cases report <;> simp [loadAbandonedEvent]

@[simp] theorem abandonLoads_timing (report : Bool) (s : State) : (abandonLoads report s).timing = s.timing :=
  foldl_timing _ (abandonLoad_timing report) _ s

@[simp] theorem resetChannel_timing (t : Time) (s : State) : (resetChannel t s).timing = s.timing := rfl

/-! ### The clock unit and the score record -/

@[simp] theorem announceExpiry_timing (h : Time) (c : Fin 4) (tx : Time) (te : Option Time) (v : Nat) (s : State) :
    (announceExpiry h c tx te v s).timing = s.timing := by
  unfold announceExpiry
  dsimp only
  split <;> simp

theorem startClock_timing (e : Time) (c : Fin 4) (s : State) : (startClock e c s).state.timing = s.timing := by
  unfold startClock
  dsimp only
  split <;> rfl

@[simp] theorem stopClock_timing (e h : Time) (c : Fin 4) (s : State) : (stopClock e h c s).timing = s.timing := by
  unfold stopClock
  dsimp only
  split
  · rfl
  · split <;> simp

theorem clockStartOp_timing (e : Time) (ch : Nat) (s : State) : (clockStartOp e ch s).state.timing = s.timing := by
  unfold clockStartOp
  split
  · rfl
  · exact startClock_timing _ _ _

theorem clockStopOp_timing (e : Time) (ch : Nat) (s : State) : (clockStopOp e ch s).state.timing = s.timing := by
  unfold clockStopOp
  split <;> simp

theorem clockPresetOp_timing (e : Time) (ch : Nat) (s : State) : (clockPresetOp e ch s).state.timing = s.timing := by
  unfold clockPresetOp
  split <;> rfl

theorem storeField_timing (t : Time) (f : Fin 16) (v : Nat) (s : State) : (storeField t f v s).timing = s.timing := by
  unfold storeField
  dsimp only
  split
  · rfl
  · split <;> rfl

theorem scoreAddOp_timing (t : Time) (field : Nat) (delta : Int) (s : State) :
    (scoreAddOp t field delta s).state.timing = s.timing := by
  unfold scoreAddOp
  split
  · rfl
  · split
    · rfl
    · split
      · rfl
      · exact storeField_timing _ _ _ _

/-! ### The sponsor scheduler, the message unit, the compositor and the horn -/

theorem closeContract_timing (s : State) (i : Fin 64) : (closeContract s i).timing = s.timing := by
  simp [closeContract]

theorem periodCloseOp_timing (s : State) : (periodCloseOp s).state.timing = s.timing := by
  unfold periodCloseOp
  split
  · rfl
  · exact foldl_timing _ closeContract_timing _ _

@[simp] theorem removeEntry_timing (t : Time) (e : Message) (why : DoneReason) (s : State) :
    (removeEntry t e why s).timing = s.timing := by
  simp [removeEntry]

theorem dismiss_timing (t : Time) (why : DoneReason) (s : State) (e : Message) : (dismiss t why s e).timing = s.timing := by
  unfold dismiss
  split
  · exact removeEntry_timing _ _ _ _
  · rfl

@[simp] theorem placeEntry_timing (e : Message) (s : State) : (placeEntry e s).timing = s.timing := by
  simp [placeEntry]

theorem postOp_timing (t : Time) (p : PostFields) (s : State) : (postOp t p s).state.timing = s.timing := by
  unfold postOp
  split
  · rfl
  · split
    · rfl
    · split
      · rfl
      · split
        · simp
        · split <;> simp

theorem postTemplateOp_timing (t : Time) (n : Nat) (s : State) : (postTemplateOp t n s).state.timing = s.timing := by
  unfold postTemplateOp
  split
  · rfl
  · split
    · rfl
    · exact postOp_timing _ _ _

theorem withdrawOp_timing (t : Time) (tag : Nat) (s : State) : (withdrawOp t tag s).state.timing = s.timing := by
  unfold withdrawOp
  split
  · rfl
  · exact dismiss_timing _ _ _ _

@[simp] theorem emptyQueue_timing (s : State) : (emptyQueue s).timing = s.timing := by
  unfold emptyQueue
  exact foldl_timing (fun u e => releasePin e.strip u) (fun u e => releasePin_timing e.strip u) s.msgs.queue s

theorem layoutSelectOp_timing (layout : Nat) (s : State) : (layoutSelectOp layout s).state.timing = s.timing := by
  unfold layoutSelectOp
  split <;> rfl

theorem hornOp_timing (t : Time) (ms : Nat) (s : State) : (hornOp t ms s).state.timing = s.timing := by
  unfold hornOp
  split <;> simp

/-! ### The cue unit and the taking of a command -/

/-- No cue action reaches the frame timing unit: none of the eleven is RESUME (R192). -/
theorem cueAction_timing (t : Time) (c : CueCfg) (s : State) : (cueAction t c s).1.state.timing = s.timing := by
  unfold cueAction
  split
  · exact clockStartOp_timing _ _ _
  · exact clockStopOp_timing _ _ _
  · exact clockPresetOp_timing _ _ _
  · exact playOp_timing _ _ _ _ _
  · exact playerStop_timing _
  · exact postTemplateOp_timing _ _ _
  · exact withdrawOp_timing _ _ _
  · exact layoutSelectOp_timing _ _
  · exact periodCloseOp_timing _
  · exact hornOp_timing _ _ _
  · exact scoreAddOp_timing _ _ _ _

/-- Taking the waiting triggers leaves the frame timing unit as it is (R191). -/
@[simp] theorem settle_timing (s : State) : (settle s).timing = s.timing := by
  refine settle_keeps (fun u => u.timing = s.timing) ?pop ?fire s rfl
  case pop => exact fun _ _ _ _ h => h
  case fire =>
    refine fireCue_keeps _ ?set ?refusal ?action
    case set => exact fun _ _ _ h => h
    case refusal => exact fun o k why u h => (raiseRefusal_timing o k why u).trans h
    case action => exact fun t c u h => (cueAction_timing t c u).trans h

/-- A command whose owner leaves the frame timing unit as it is leaves it so, also where it is refused or not taken. -/
theorem command_timing {t : Time} {k : Kind} {em : Bool} {op : State → Reply} {s u : State}
    (owner : ∀ v, (op v).state.timing = v.timing) (taken : command t k em op s = .next u) : u.timing = s.timing := by
  rcases command_cases taken with ⟨_, rfl⟩ | ⟨_, rfl⟩
  · rfl
  · rw [settle_timing]
    rcases dispatch_cases k em op (s.at t) with ⟨why, _, e⟩ | ⟨_, e⟩
    · rw [e, raiseRefusal_timing, State.at_timing]
    · rw [e]
      rcases Reply.done_cases (op (s.at t)) .packet k.code with ⟨_, d⟩ | ⟨why, _, d⟩
      · rw [d, owner, State.at_timing]
      · rw [d, raiseRefusal_timing, owner, State.at_timing]

/-- A device reset takes the reset values of the frame timing unit (R13, R18, R19). -/
theorem execDeviceReset_timing (pins : Pins) (s : State) :
    ∃ u, execDeviceReset pins s = .next u ∧ u.timing = .reset pins.rateSel :=
  ⟨{ State.released pins with pending := s.pending }, rfl, rfl⟩

theorem exec_deviceReset (pins : Pins) (s : State) : exec (.deviceReset pins) s = execDeviceReset pins s := rfl

theorem exec_controlReset (t : Time) (s : State) :
    exec (.controlReset t) s = command t .controlReset false (controlResetOp t) s := rfl

theorem controlResetOp_timing (t : Time) (s : State) : (controlResetOp t s).state.timing = s.timing := by
  unfold controlResetOp
  rw [accept_state, raiseStatus_timing, recorderStop_timing, playerStop_timing, emptyQueue_timing, resetChannel_timing,
    abandonAssets_timing, abandonLoads_timing]

end Sys2Proof.Machine
end

section
/-! PROOFS. Stream links and frame timing (chapter 1). -/

namespace Sys2Proof.Machine

/-- Settles O5: a device reset takes the frame timing unit's reset values, and neither a control reset nor any cue action it
sets off reaches that unit (R13, R46). -/
theorem operatingStateThroughResets : Obligations.OperatingStateThroughResets := by
  unfold Obligations.OperatingStateThroughResets
  constructor
  · intro pins s
    obtain ⟨u, released, timing⟩ := execDeviceReset_timing pins s
    exact ⟨u, (exec_deviceReset pins s).trans released, by rw [timing]; rfl, by rw [timing]; rfl, by rw [timing]; rfl⟩
  · intro t s
    obtain ⟨u, taken⟩ := command_next t .controlReset false (controlResetOp t) s
    have kept : u.timing = s.timing := command_timing (controlResetOp_timing t) taken
    exact ⟨u, (exec_controlReset t s).trans taken, by rw [kept], by rw [kept], by rw [kept]⟩

end Sys2Proof.Machine
end

section
/-! SUPPORT. What leaves the health counter as it is: every operation of every block but the count of a checked packet and
the control reset (R26). Operations that queue no report leave the whole control channel as it is. -/

namespace Sys2Proof.Machine

/-- A fold leaves what it is measured by as each of its steps does. -/
theorem foldl_same {α β σ : Type} (g : σ → β) (f : σ → α → σ) (step : ∀ s a, g (f s a) = g s) (l : List α) (s : σ) :
    g (l.foldl f s) = g s :=
  foldl_keeps (fun u => g u = g s) f (fun u a h => (step u a).trans h) l s rfl

theorem foldl_control_health {α : Type} (f : State → α → State)
    (step : ∀ s a, (f s a).control.health = s.control.health) (l : List α) (s : State) :
    (l.foldl f s).control.health = s.control.health :=
  foldl_same (·.control.health) f step l s

theorem foldl_control {α : Type} (f : State → α → State) (step : ∀ s a, (f s a).control = s.control) (l : List α)
    (s : State) : (l.foldl f s).control = s.control :=
  foldl_same (·.control) f step l s

theorem foldl_active {α : Type} (f : State → α → State) (step : ∀ s a, (f s a).active = s.active) (l : List α) (s : State) :
    (l.foldl f s).active = s.active :=
  foldl_same (·.active) f step l s

/-- A choice between two states that leave the health counter as it is leaves it so. -/
theorem ite_control_health {p : Prop} [Decidable p] {a b s : State} (yes : a.control.health = s.control.health)
    (no : b.control.health = s.control.health) : (if p then a else b).control.health = s.control.health := by
  split
  · exact yes
  · exact no

/-! ### The replay unit -/

theorem staleMark_control_health (k : Nat) (s : State) (m : Fin 16) :
    (staleMark k s m).control.health = s.control.health := by
  unfold staleMark
  split
  · split
    · simp [markStaleEvent]
    · rfl
  · rfl

@[simp] theorem staleMarks_control_health (k : Nat) (s : State) : (staleMarks k s).control.health = s.control.health := by
  rw [staleMarks, foldl_control_health _ (staleMark_control_health k)]

theorem markInOp_control (mark kind number label : Nat) (s : State) :
    (markInOp mark kind number label s).state.control = s.control := by
  unfold markInOp
  split
  · rfl
  · split
    · rfl
    · split
      · rfl
      · split <;> rfl

theorem markOutOp_control (mark kind number : Nat) (s : State) :
    (markOutOp mark kind number s).state.control = s.control := by
  unfold markOutOp
  split
  · rfl
  · split
    · rfl
    · split
      · rfl
      · split
        · rfl
        · split
          · rfl
          · split
            · rfl
            · split <;> rfl

theorem markClearOp_control (mark : Nat) (s : State) : (markClearOp mark s).state.control = s.control := by
  unfold markClearOp
  split
  · rfl
  · split <;> rfl

theorem recordStartOp_control (source : Nat) (s : State) : (recordStartOp source s).state.control = s.control := by
  unfold recordStartOp
  split
  · rfl
  · split
    · rfl
    · split <;> rfl

@[simp] theorem recorderStop_control (s : State) : (recorderStop s).control = s.control := by
  unfold recorderStop
  split <;> rfl

@[simp] theorem gapEvent_control_health (f : RingFrame) (s : State) :
    (gapEvent f s).control.health = s.control.health := by
  unfold gapEvent
  split
  · rfl
  · simp

@[simp] theorem writeFrame_control_health (stamp : Time) (p : Picture) (s : State) :
    (writeFrame stamp p s).control.health = s.control.health := by
  unfold writeFrame
  dsimp only
  rw [gapEvent_control_health]
  split
  · rfl
  · simp

@[simp] theorem takeSnapshot_control (i : InputId) (s : State) : (takeSnapshot i s).control = s.control := by
  unfold takeSnapshot
  split <;> rfl

@[simp] theorem missFrame_control (s : State) : (missFrame s).control = s.control := rfl

@[simp] theorem heldEvent_control_health (s : State) : (heldEvent s).control.health = s.control.health := by
  simp [heldEvent]

@[simp] theorem handFrame_control_health (i : InputId) (stamp : Time) (p : Option Picture) (s : State) :
    (handFrame i stamp p s).control.health = s.control.health := by
  unfold handFrame
  split
  · rfl
  · dsimp only
    split
    · rfl
    · rfl
    · split
      · rfl
      · split <;> simp
    · split
      · rfl
      · split <;> simp

theorem cueOp_control (mark : Nat) (s : State) : (cueOp mark s).state.control = s.control := by
  unfold cueOp
  split
  · rfl
  · split <;> rfl

theorem playOp_control (mark n d e : Nat) (s : State) : (playOp mark n d e s).state.control = s.control := by
  unfold playOp
  split
  · split <;> rfl
  · rfl

theorem pauseOp_control (s : State) : (pauseOp s).state.control = s.control := by
  unfold pauseOp
  split <;> rfl

theorem continueOp_control (s : State) : (continueOp s).state.control = s.control := by
  unfold continueOp
  split <;> rfl

theorem stepOp_control (amount : Int) (s : State) : (stepOp amount s).state.control = s.control := by
  unfold stepOp
  split
  · rfl
  · split <;> rfl

@[simp] theorem playerStop_control (s : State) : (playerStop s).control = s.control := by
  unfold playerStop
  split <;> rfl

@[simp] theorem endClip_control_health (t : Time) (p : Nat) (s : State) :
    (endClip t p s).control.health = s.control.health := by
  simp [endClip]

@[simp] theorem playerAdvance_control_health (t : Time) (s : State) :
    (playerAdvance t s).control.health = s.control.health := by
  unfold playerAdvance
  dsimp only
  split
  · rfl
  · exact endClip_control_health _ _ _

@[simp] theorem playerFrame_control_health (t : Time) (s : State) :
    (playerFrame t s).control.health = s.control.health := by
  unfold playerFrame
  dsimp only
  split
  · exact playerAdvance_control_health _ _
  · rfl

/-! ### The receivers and the frame timing unit -/

@[simp] theorem setFeed_control_health (t : Time) (i : InputId) (f : Feed) (s : State) :
    (setFeed t i f s).control.health = s.control.health := by
  unfold setFeed
  dsimp only
  split
  · rfl
  · simp

@[simp] theorem setOp_control_health (o : OpState) (s : State) : (setOp o s).control.health = s.control.health := by
  unfold setOp
  split
  · rfl
  · simp

@[simp] theorem holdExpired_control_health (t : Time) (i : InputId) (s : State) :
    (holdExpired t i s).control.health = s.control.health := by
  unfold holdExpired
  extract_lets receiver s1 s2
  have kept1 : s1.control.health = s.control.health := congrArg Control.health (State.setReceiver_control _ _ _)
  have kept2 : s2.control.health = s.control.health :=
    ite_control_health ((setFeed_control_health _ _ _ _).trans kept1) kept1
  exact ite_control_health ((setOp_control_health _ _).trans kept2) kept2

@[simp] theorem startHold_control_health (t : Time) (i : InputId) (s : State) :
    (startHold t i s).control.health = s.control.health := by
  unfold startHold
  dsimp only
  split <;> simp

@[simp] theorem realign_control (t : Time) (s : State) : (realign t s).control = s.control := by
  unfold realign
  dsimp only
  split <;> rfl

@[simp] theorem enterLive_control_health (t : Time) (s : State) : (enterLive t s).control.health = s.control.health := by
  simp [enterLive]

@[simp] theorem lossOfPgm_control_health (t : Time) (s : State) : (lossOfPgm t s).control.health = s.control.health := by
  unfold lossOfPgm
  split
  · exact setOp_control_health _ _
  · rfl

@[simp] theorem holdFrozen_control (i : InputId) (s : State) : (holdFrozen i s).control = s.control := by
  rw [holdFrozen_eq, State.setReceiver_control]

@[simp] theorem leaveLocked_control_health (t : Time) (i : InputId) (s : State) :
    (leaveLocked t i s).control.health = s.control.health := by
  unfold leaveLocked
  extract_lets r start s0 s1 s2
  have kept0 : s0.control.health = s.control.health := congrArg Control.health (holdFrozen_control i s)
  have kept1 : s1.control.health = s.control.health :=
    ite_control_health ((setFeed_control_health _ _ _ _).trans kept0) kept0
  have kept2 : s2.control.health = s.control.health :=
    ite_control_health ((lossOfPgm_control_health _ _).trans kept1) kept1
  exact ite_control_health ((startHold_control_health _ _ _).trans kept2) kept2

@[simp] theorem relock_control_health (t : Time) (s : State) : (relock t s).control.health = s.control.health := by
  unfold relock
  extract_lets limit n timing s1
  have kept1 : s1.control.health = s.control.health := ite_control_health rfl rfl
  exact ite_control_health ((enterLive_control_health _ _).trans kept1) ((setOp_control_health _ _).trans kept1)

@[simp] theorem lockOfPgm_control_health (t : Time) (s : State) : (lockOfPgm t s).control.health = s.control.health := by
  unfold lockOfPgm
  split
  · exact enterLive_control_health _ _
  · exact relock_control_health _ _
  · exact relock_control_health _ _
  · rfl

@[simp] theorem becomeLocked_control_health (t : Time) (i : InputId) (s : State) :
    (becomeLocked t i s).control.health = s.control.health := by
  unfold becomeLocked
  dsimp only
  split <;> simp

@[simp] theorem afterFrame_control_health (t : Time) (i : InputId) (before : Receiver) (live : Bool) (s : State) :
    (afterFrame t i before live s).control.health = s.control.health := by
  unfold afterFrame
  split
  · exact leaveLocked_control_health _ _ _
  · exact becomeLocked_control_health _ _ _
  · split <;> rfl
  · rfl

theorem inputFrame_control_health (t : Time) (i : InputId) (f : InputFrame) (s : State) :
    (inputFrame t i f s).control.health = s.control.health := by
  unfold inputFrame
  dsimp only
  split
  · rfl
  · simp

theorem signalOn_control (i : InputId) (s : State) : (signalOn i s).control = s.control :=
  State.setReceiver_control _ _ _

theorem signalOff_control_health (t : Time) (i : InputId) (s : State) :
    (signalOff t i s).control.health = s.control.health := by
  unfold signalOff
  dsimp only
  split <;> simp

theorem acquiringTimeout_control (t : Time) (i : InputId) (s : State) :
    (acquiringTimeout t i s).control = s.control := by
  unfold acquiringTimeout
  dsimp only
  split
  · exact State.setReceiver_control _ _ _
  · rfl

theorem lockedTimeout_control_health (t : Time) (i : InputId) (s : State) :
    (lockedTimeout t i s).control.health = s.control.health := by
  unfold lockedTimeout
  dsimp only
  split
  · rfl
  · split <;> simp

@[simp] theorem feedFrame_control_health (t : Time) (i : InputId) (s : State) :
    (feedFrame t i s).control.health = s.control.health := by
  unfold feedFrame
  split
  · exact setFeed_control_health _ _ _ _
  · rfl

theorem resumeOp_control_health (t : Time) (s : State) : (resumeOp t s).state.control.health = s.control.health := by
  unfold resumeOp
  split
  · rfl
  · split
    · exact enterLive_control_health _ _
    · rfl

@[simp] theorem takeFrameStart_control (t : Time) (s : State) : (takeFrameStart t s).control = s.control := rfl

@[simp] theorem freeRun_control (t : Time) (s : State) : (freeRun t s).control = s.control := by
  unfold freeRun
  split <;> rfl

/-! ### The asset store -/

theorem assetOpenOp_control (t : Time) (id kind w h n iv : Nat) (s : State) :
    (assetOpenOp t id kind w h n iv s).state.control = s.control := by
  unfold assetOpenOp
  split
  · split
    · rfl
    · dsimp only
      split
      · rfl
      · split <;> rfl
  · rfl

theorem assetDataOp_control (t : Time) (id offset : Nat) (data : List Byte) (s : State) :
    (assetDataOp t id offset data s).state.control = s.control := by
  unfold assetDataOp
  split
  · rfl
  · dsimp only
    split
    · rfl
    · split <;> rfl

@[simp] theorem failedEvent_control_health (id : AssetId) (reason received : Nat) (s : State) :
    (failedEvent id reason received s).control.health = s.control.health := raiseEvent_control_health _ _ _ _

@[simp] theorem readyEvent_control_health (id : AssetId) (a : Asset) (s : State) :
    (readyEvent id a s).control.health = s.control.health := raiseEvent_control_health _ _ _ _

theorem assetCloseOp_control_health (id : Nat) (check : BitVec 32) (s : State) :
    (assetCloseOp id check s).state.control.health = s.control.health := by
  unfold assetCloseOp
  split
  · rfl
  · dsimp only
    split
    · rfl
    · split <;> simp

theorem assetTimeout_control_health (t : Time) (id : AssetId) (s : State) :
    (assetTimeout t id s).control.health = s.control.health := by
  unfold assetTimeout
  dsimp only
  split
  · exact failedEvent_control_health _ _ _ _
  · rfl

theorem abandonAsset_control_health (report : Bool) (s : State) (id : AssetId) :
    (abandonAsset report s id).control.health = s.control.health := by
  unfold abandonAsset
  dsimp only
  split
  · cases report <;> simp
  · rfl

@[simp] theorem abandonAssets_control_health (report : Bool) (s : State) :
    (abandonAssets report s).control.health = s.control.health := by
  rw [abandonAssets, foldl_control_health _ (abandonAsset_control_health report)]

theorem abandonAsset_active (report : Bool) (s : State) (id : AssetId) : (abandonAsset report s id).active = s.active := by
  unfold abandonAsset
  dsimp only
  split
  · cases report <;> simp [failedEvent]
  · rfl

@[simp] theorem abandonAssets_active (report : Bool) (s : State) : (abandonAssets report s).active = s.active := by
  rw [abandonAssets, foldl_active _ (abandonAsset_active report)]

theorem assetDropOp_control (id : Nat) (s : State) : (assetDropOp id s).state.control = s.control := by
  unfold assetDropOp
  split
  · rfl
  · dsimp only
    split
    · rfl
    · rfl
    · split <;> rfl
    · rfl

/-! ### The clock unit -/

@[simp] theorem announceExpiry_control_health (h : Time) (c : Fin 4) (tx : Time) (te : Option Time) (v : Nat) (s : State) :
    (announceExpiry h c tx te v s).control.health = s.control.health := by
  unfold announceExpiry
  dsimp only
  split <;> simp

@[simp] theorem clockAdvance_control_health (t : Time) (s : State) (c : Fin 4) :
    (clockAdvance t s c).control.health = s.control.health := by
  unfold clockAdvance
  dsimp only
  split
  · rfl
  · split <;> simp

@[simp] theorem clockConsole_control_health (t : Time) (s : State) (c : Fin 4) :
    (clockConsole t s c).control.health = s.control.health := by
  unfold clockConsole
  dsimp only
  split
  · split <;> simp
  · rfl

@[simp] theorem clockStale_control_health (t : Time) (s : State) (c : Fin 4) :
    (clockStale t s c).control.health = s.control.health := by
  unfold clockStale
  dsimp only
  split
  · rfl
  · split <;> simp

theorem clockStages_control_health (t : Time) (s : State) (c : Fin 4) :
    (clockStages t s c).control.health = s.control.health := by
  simp [clockStages]

theorem clockFrameValue_control (t : Time) (s : State) (c : Fin 4) : (clockFrameValue t s c).control = s.control := by
  unfold clockFrameValue
  dsimp only
  split <;> rfl

theorem startClock_control (e : Time) (c : Fin 4) (s : State) : (startClock e c s).state.control = s.control := by
  unfold startClock
  dsimp only
  split <;> rfl

@[simp] theorem stopClock_control_health (e h : Time) (c : Fin 4) (s : State) :
    (stopClock e h c s).control.health = s.control.health := by
  unfold stopClock
  dsimp only
  split
  · rfl
  · split <;> simp

theorem clockStartOp_control (e : Time) (ch : Nat) (s : State) : (clockStartOp e ch s).state.control = s.control := by
  unfold clockStartOp
  split
  · rfl
  · exact startClock_control _ _ _

theorem clockStopOp_control_health (e : Time) (ch : Nat) (s : State) :
    (clockStopOp e ch s).state.control.health = s.control.health := by
  unfold clockStopOp
  split
  · rfl
  · exact stopClock_control_health _ _ _ _

theorem clockSetOp_control (e : Time) (ch ms : Nat) (s : State) : (clockSetOp e ch ms s).state.control = s.control := by
  unfold clockSetOp
  split <;> rfl

theorem clockAdjustOp_control (e : Time) (ch : Nat) (ms : Int) (s : State) :
    (clockAdjustOp e ch ms s).state.control = s.control := by
  unfold clockAdjustOp
  split <;> rfl

theorem clockPresetOp_control (e : Time) (ch : Nat) (s : State) : (clockPresetOp e ch s).state.control = s.control := by
  unfold clockPresetOp
  split <;> rfl

theorem clockReportOp_control (t : Time) (ch ms running : Nat) (s : State) :
    (clockReportOp t ch ms running s).state.control = s.control := by
  unfold clockReportOp
  split
  · rfl
  · split
    · rfl
    · split <;> rfl

/-! ### The score record -/

@[simp] theorem storeField_control (t : Time) (f : Fin 16) (v : Nat) (s : State) :
    (storeField t f v s).control = s.control := by
  unfold storeField
  dsimp only
  split
  · rfl
  · split <;> rfl

theorem scoreSetOp_control (t : Time) (field : Nat) (value : Int) (s : State) :
    (scoreSetOp t field value s).state.control = s.control := by
  unfold scoreSetOp
  split
  · rfl
  · split
    · split
      · rfl
      · exact storeField_control _ _ _ _
    · exact storeField_control _ _ _ _

theorem scoreAddOp_control (t : Time) (field : Nat) (delta : Int) (s : State) :
    (scoreAddOp t field delta s).state.control = s.control := by
  unfold scoreAddOp
  split
  · rfl
  · split
    · rfl
    · split
      · rfl
      · exact storeField_control _ _ _ _

/-! ### The sponsor scheduler -/

@[simp] theorem accrue_control (dt : Nat) (s : State) : (accrue dt s).control = s.control := rfl

theorem dwellCount_control (s : State) : (dwellCount s).1.control = s.control := by
  unfold dwellCount
  split <;> rfl

theorem forceLane_control (x : State × List (Fin 8)) (l : Fin 8) : (forceLane x l).1.control = x.1.control := by
  unfold forceLane
  split
  · rfl
  · split <;> rfl

theorem forceEnds_control (x : State × List (Fin 8)) : (forceEnds x).1.control = x.1.control := by
  unfold forceEnds
  exact foldl_same (fun y : State × List (Fin 8) => y.1.control) forceLane forceLane_control _ x

@[simp] theorem releaseHeld_control (p : Option AssetId) (s : State) : (releaseHeld p s).control = s.control := by
  unfold releaseHeld
  split
  · rfl
  · exact releasePin_control _ _

theorem serveLane_control (s : State) (l : Fin 8) : (serveLane s l).control = s.control := by
  unfold serveLane
  split
  · rfl
  · split
    · rfl
    · simp [takeContract]

theorem selectLanes_control (served : List (Fin 8)) (s : State) : (selectLanes served s).control = s.control := by
  rw [selectLanes, foldl_control _ serveLane_control, giveUp]

theorem settleFill_control (s : State) (l : Fin 8) : (settleFill s l).control = s.control := by
  unfold settleFill
  dsimp only
  split
  · rfl
  · split <;> simp [apply_ite State.control]

@[simp] theorem sponsorStages_control (s : State) : (sponsorStages s).control = s.control := by
  unfold sponsorStages
  dsimp only
  rw [foldl_control _ settleFill_control, selectLanes_control, forceEnds_control, dwellCount_control]

theorem contractPauseOp_control (contract : Nat) (s : State) : (contractPauseOp contract s).state.control = s.control := by
  unfold contractPauseOp
  split
  · rfl
  · split <;> rfl

theorem contractResumeOp_control (contract : Nat) (s : State) :
    (contractResumeOp contract s).state.control = s.control := by
  unfold contractResumeOp
  split
  · rfl
  · split <;> rfl

theorem closeContract_control_health (s : State) (i : Fin 64) :
    (closeContract s i).control.health = s.control.health := by
  simp [closeContract]

theorem periodCloseOp_control_health (s : State) : (periodCloseOp s).state.control.health = s.control.health := by
  unfold periodCloseOp
  split
  · rfl
  · exact foldl_control_health _ closeContract_control_health _ _

theorem settleRemoveOp_control (n : Nat) (s : State) : (settleRemoveOp n s).state.control = s.control := rfl

/-! ### The message unit -/

@[simp] theorem removeEntry_control_health (t : Time) (e : Message) (why : DoneReason) (s : State) :
    (removeEntry t e why s).control.health = s.control.health := by
  simp [removeEntry]

theorem dismiss_control_health (t : Time) (why : DoneReason) (s : State) (e : Message) :
    (dismiss t why s e).control.health = s.control.health := by
  unfold dismiss
  split
  · exact removeEntry_control_health _ _ _ _
  · rfl

@[simp] theorem dismissClass_control_health (t : Time) (why : DoneReason) (c : MessageClass) (s : State) :
    (dismissClass t why c s).control.health = s.control.health := by
  rw [dismissClass, foldl_control_health _ (dismiss_control_health t why)]

@[simp] theorem placeEntry_control (e : Message) (s : State) : (placeEntry e s).control = s.control := by
  simp [placeEntry]

theorem postOp_control_health (t : Time) (p : PostFields) (s : State) :
    (postOp t p s).state.control.health = s.control.health := by
  unfold postOp
  split
  · rfl
  · split
    · rfl
    · split
      · rfl
      · split
        · simp
        · split <;> simp

theorem postTemplateOp_control_health (t : Time) (n : Nat) (s : State) :
    (postTemplateOp t n s).state.control.health = s.control.health := by
  unfold postTemplateOp
  split
  · rfl
  · split
    · rfl
    · exact postOp_control_health _ _ _

theorem withdrawOp_control_health (t : Time) (tag : Nat) (s : State) :
    (withdrawOp t tag s).state.control.health = s.control.health := by
  unfold withdrawOp
  split
  · rfl
  · exact dismiss_control_health _ _ _ _

theorem clearClassOp_control_health (t : Time) (cls : Nat) (s : State) :
    (clearClassOp t cls s).state.control.health = s.control.health := by
  unfold clearClassOp
  split
  · rfl
  · exact dismissClass_control_health _ _ _ _

@[simp] theorem emptyQueue_control (s : State) : (emptyQueue s).control = s.control := by
  unfold emptyQueue
  exact foldl_control (fun u e => releasePin e.strip u) (fun u e => releasePin_control e.strip u) s.msgs.queue s

@[simp] theorem departures_control_health (t : Time) (s : State) : (departures t s).control.health = s.control.health := by
  refine foldl_control_health _ (fun u e => ?_) s.msgs.queue s
  split
  · rfl
  · exact removeEntry_control_health _ _ _ _

@[simp] theorem lifetimes_control_health (t : Time) (s : State) : (lifetimes t s).control.health = s.control.health := by
  refine foldl_control_health _ (fun u e => ?_) _ { s with msgs.queue := s.msgs.queue.map Message.older }
  split
  · exact removeEntry_control_health _ _ _ _
  · rfl

@[simp] theorem endPass_control_health (t : Time) (n : Fin 5) (e : Message) (s : State) :
    (endPass t n e s).control.health = s.control.health := by
  unfold endPass
  dsimp only
  split
  · exact removeEntry_control_health _ _ _ _
  · rfl

theorem advanceLane_control_health (t : Time) (s : State) (n : Fin 5) :
    (advanceLane t s n).control.health = s.control.health := by
  unfold advanceLane
  dsimp only
  split
  · rfl
  · split
    all_goals
      split
      · exact endPass_control_health _ _ _ _
      · rfl

@[simp] theorem messagePasses_control_health (t : Time) (s : State) :
    (messagePasses t s).control.health = s.control.health := by
  unfold messagePasses
  split
  · rfl
  · exact foldl_control_health _ (advanceLane_control_health t) _ s

theorem selectEntry_control (s : State) (n : Fin 5) : (selectEntry s n).control = s.control := by
  unfold selectEntry
  dsimp only
  split
  · rfl
  · split <;> rfl

@[simp] theorem selectEntries_control (s : State) : (selectEntries s).control = s.control := by
  rw [selectEntries, foldl_control _ selectEntry_control]

@[simp] theorem messageStages_control_health (t : Time) (s : State) :
    (messageStages t s).control.health = s.control.health := by
  rw [messageStages, selectEntries_control, messagePasses_control_health, setTakeover, emergencyPass,
    advanceLane_control_health, lifetimes_control_health, departures_control_health]

/-! ### The cue unit, the contact lines and the horn -/

theorem layoutSelectOp_control (layout : Nat) (s : State) : (layoutSelectOp layout s).state.control = s.control := by
  unfold layoutSelectOp
  split <;> rfl

theorem hornOp_control (t : Time) (ms : Nat) (s : State) : (hornOp t ms s).state.control = s.control := by
  unfold hornOp
  split
  · rfl
  · exact hornRequest_control _ _ _

/-- No cue action reaches the health counter: none of the eleven is CONTROL_RESET (R192). -/
theorem cueAction_control_health (t : Time) (c : CueCfg) (s : State) :
    (cueAction t c s).1.state.control.health = s.control.health := by
  unfold cueAction
  split
  · rw [clockStartOp_control]
  · exact clockStopOp_control_health _ _ _
  · rw [clockPresetOp_control]
  · rw [playOp_control]
  · rw [accept_state, playerStop_control]
  · exact postTemplateOp_control_health _ _ _
  · exact withdrawOp_control_health _ _ _
  · rw [layoutSelectOp_control]
  · exact periodCloseOp_control_health _
  · rw [hornOp_control]
  · rw [scoreAddOp_control]

/-- Taking the waiting triggers leaves the health counter as it is (R191). -/
@[simp] theorem settle_control_health (s : State) : (settle s).control.health = s.control.health := by
  refine settle_keeps (fun u => u.control.health = s.control.health) ?pop ?fire s rfl
  case pop => exact fun _ _ _ _ h => h
  case fire =>
    refine fireCue_keeps _ ?set ?refusal ?action
    case set => exact fun _ _ _ h => h
    case refusal => exact fun o k why u h => (raiseRefusal_control_health o k why u).trans h
    case action => exact fun t c u h => (cueAction_control_health t c u).trans h

theorem lineChange_control (t : Time) (l : Fin 4) (high : Bool) (s : State) :
    (lineChange t l high s).control = s.control := rfl

@[simp] theorem boundEdge_control_health (t : Time) (l : Fin 4) (rise : Bool) (edge : Time) (s : State) :
    (boundEdge t l rise edge s).control.health = s.control.health := by
  unfold boundEdge
  dsimp only
  split
  · rfl
  · split
    · rw [startClock_control]
    · exact stopClock_control_health _ _ _ _

theorem filterExpiry_control_health (t : Time) (l : Fin 4) (s : State) :
    (filterExpiry t l s).control.health = s.control.health := by
  unfold filterExpiry
  dsimp only
  split
  · rfl
  · split
    · simp
    · rfl

theorem endHorn_control (t : Time) (s : State) : (endHorn t s).control = s.control := by
  unfold endHorn
  split <;> rfl

theorem cueArmOp_control (index : Nat) (armed : Bool) (s : State) : (cueArmOp index armed s).state.control = s.control := by
  unfold cueArmOp
  split <;> rfl

/-! ### The control channel -/

@[simp] theorem restartUnattended_control_health (t : Time) (s : State) :
    (restartUnattended t s).control.health = s.control.health := rfl

@[simp] theorem attend_control_health (t : Time) (s : State) : (attend t s).control.health = s.control.health := by
  unfold attend
  dsimp only
  split
  · exact raiseStatus_control_health _
  · rfl

theorem selectUnattendedLayout_control (s : State) : (selectUnattendedLayout s).control = s.control := by
  unfold selectUnattendedLayout
  split <;> rfl

theorem unattendedExpiry_control_health (t : Time) (s : State) :
    (unattendedExpiry t s).control.health = s.control.health := by
  unfold unattendedExpiry
  dsimp only
  split
  · rw [raiseStatus_control_health, raiseTrigger_control, dismissClass_control_health, selectUnattendedLayout_control]
  · rfl

theorem unitCommitted_control_health (t : Time) (old : List Byte) (s : State) :
    (unitCommitted t old s).control.health = s.control.health := by
  unfold unitCommitted
  extract_lets s1
  have kept1 : s1.control.health = s.control.health := ite_control_health rfl rfl
  exact ite_control_health kept1 kept1

theorem memoryCommitted_control (old : List Byte) (s : State) : (memoryCommitted old s).control = s.control := by
  unfold memoryCommitted
  split <;> rfl

@[simp] theorem commitEffects_control_health (t : Time) (id : Fin 15) (old : List Byte) (s : State) :
    (commitEffects t id old s).control.health = s.control.health := by
  unfold commitEffects
  split
  · exact unitCommitted_control_health _ _ _
  · rw [memoryCommitted_control]
  all_goals rfl

@[simp] theorem handTable_control_health (t : Time) (id : Fin 15) (s : State) :
    (handTable t id s).control.health = s.control.health := by
  rcases handTable_cases t id s with e | ⟨staging, _, ⟨k, _, e⟩ | ⟨_, e⟩⟩
  · rw [e]
  · rw [e]; simp
  · rw [e]; simp

@[simp] theorem handGroup_control_health (t : Time) (s : State) : (handGroup t s).control.health = s.control.health := by
  unfold handGroup
  split
  · rfl
  · exact handTable_control_health _ _ _

theorem loadOp_control_health (t : Time) (table first count : Nat) (ff fl : Bool) (bs : List Byte) (s : State) :
    (loadOp t table first count ff fl bs s).state.control.health = s.control.health := by
  unfold loadOp
  split
  · rfl
  · split
    · rfl
    · split <;> rfl

theorem loadTimeout_control_health (t : Time) (id : Fin 15) (s : State) :
    (loadTimeout t id s).control.health = s.control.health := by
  unfold loadTimeout
  split
  · split
    · simp [loadAbandonedEvent]
    · rfl
  · rfl

theorem abandonLoad_control_health (report : Bool) (s : State) (id : Fin 15) :
    (abandonLoad report s id).control.health = s.control.health := by
  unfold abandonLoad
  split
  · rfl
  · cases report <;> simp [loadAbandonedEvent]

@[simp] theorem abandonLoads_control_health (report : Bool) (s : State) :
    (abandonLoads report s).control.health = s.control.health := by
  rw [abandonLoads, foldl_control_health _ (abandonLoad_control_health report)]

theorem abandonLoad_active (report : Bool) (s : State) (id : Fin 15) : (abandonLoad report s id).active = s.active := by
  unfold abandonLoad
  split
  · rfl
  · cases report <;> simp [loadAbandonedEvent]

@[simp] theorem abandonLoads_active (report : Bool) (s : State) : (abandonLoads report s).active = s.active := by
  rw [abandonLoads, foldl_active _ (abandonLoad_active report)]

theorem readTableOp_control_health (table first count : Nat) (s : State) :
    (readTableOp table first count s).state.control.health = s.control.health := by
  unfold readTableOp
  split
  · rfl
  · split
    · rfl
    · split
      · rfl
      · exact queueChunk_control_health _ _

theorem statusRequestOp_control_health (s : State) : (statusRequestOp s).state.control.health = s.control.health :=
  raiseStatus_control_health s

@[simp] theorem takeSlot_control_health (s : State) : (takeSlot s).control.health = s.control.health := by
  unfold takeSlot
  split
  · rfl
  · dsimp only
    split
    · rfl
    · split
      · exact chunkLeft_control_health _
      · rfl

@[simp] theorem countFrame_control_health (s : State) : (countFrame s).control.health = s.control.health := by
  unfold countFrame
  split
  · exact raiseStatus_control_health _
  · rfl

/-! ### The compositor and the output frame start -/

theorem takeWanted_control (s : State) (id : AssetId) : (takeWanted s id).control = s.control := by
  unfold takeWanted
  split
  · exact takePin_control _ _
  · rfl

theorem releaseUnwanted_control (wanted : List AssetId) (s : State) (id : AssetId) :
    (releaseUnwanted wanted s id).control = s.control := by
  unfold releaseUnwanted
  split
  · rfl
  · exact releasePin_control _ _

theorem updatePins_control (s : State) : (updatePins s).control = s.control := by
  unfold updatePins
  dsimp only
  rw [foldl_control _ (releaseUnwanted_control _), foldl_control _ takeWanted_control]

@[simp] theorem selectLayout_control (s : State) : (selectLayout s).control = s.control := by
  unfold selectLayout
  split <;> rfl

@[simp] theorem compose_control (s : State) : (compose s).control = s.control :=
  updatePins_control { s with comp.visible := countsOf s (buildMap s) }

@[simp] theorem reportStage_control_health (o : FrameOrder) (before : Bool) (s : State) :
    (reportStage o before s).control.health = s.control.health := by
  unfold reportStage
  extract_lets count slot
  have counted (u : State) : (count u).control.health = u.control.health :=
    ite_control_health (countFrame_control_health u) rfl
  have sent (u : State) : (slot u).control.health = u.control.health := ite_control_health (takeSlot_control_health u) rfl
  exact ite_control_health ((sent _).trans (counted _)) ((counted _).trans (sent _))

@[simp] theorem earlyCommits_control_health (o : FrameOrder) (t : Time) (s : State) :
    (earlyCommits o t s).control.health = s.control.health := by
  unfold earlyCommits
  extract_lets s1 s2 s3
  have kept1 : s1.control.health = s.control.health := by
    rw [handTable_control_health, handGroup_control_health]
  have kept2 : s2.control.health = s.control.health :=
    ite_control_health ((handTable_control_health _ _ _).trans kept1) kept1
  have kept3 : s3.control.health = s.control.health := by
    simp only [s3, handTable_control_health, kept2]
  rw [handTable_control_health]
  exact ite_control_health kept3 ((handTable_control_health _ _ _).trans kept3)

@[simp] theorem frameOpening_control_health (o : FrameOrder) (t : Time) (s : State) :
    (frameOpening o t s).control.health = s.control.health := by
  unfold frameOpening
  dsimp only
  split <;> simp

@[simp] theorem clockUnitFrame_control_health (t : Time) (s : State) :
    (clockUnitFrame t s).control.health = s.control.health := by
  unfold clockUnitFrame
  dsimp only
  rw [foldl_control _ (clockFrameValue_control t), handTable_control_health,
    foldl_control_health _ (clockStages_control_health t)]

@[simp] theorem frameStages_control_health (o : FrameOrder) (t : Time) (s : State) :
    (frameStages o t s).control.health = s.control.health := by
  unfold frameStages
  dsimp only
  split <;> simp [nextFrame, scoreFrame]

theorem frameStart_control_health (o : FrameOrder) (t : Time) (s : State) :
    (frameStart o t s).control.health = s.control.health := by
  unfold frameStart
  dsimp only
  split <;> simp

theorem dramReady_control_health (t : Time) (s : State) : (dramReady t s).control.health = s.control.health := by
  unfold dramReady
  dsimp only
  split
  · split <;> simp
  · rfl

end Sys2Proof.Machine
end

section
/-! SUPPORT. The health counter through the taking of each command and event: what a checked packet and the two resets make of
it, and that nothing else changes it (R26, R46). -/

namespace Sys2Proof.Machine

/-! ### A command, and an event -/

/-- A command whose owner leaves the health counter as it is leaves it so, also where it is refused or not taken. -/
theorem command_control_health {t : Time} {k : Kind} {em : Bool} {op : State → Reply} {s u : State}
    (owner : ∀ v, (op v).state.control.health = v.control.health) (taken : command t k em op s = .next u) :
    u.control.health = s.control.health := by
  rcases command_cases taken with ⟨_, rfl⟩ | ⟨_, rfl⟩
  · rfl
  · rw [settle_control_health]
    rcases dispatch_cases k em op (s.at t) with ⟨why, _, e⟩ | ⟨_, e⟩
    · rw [e, raiseRefusal_control_health, State.at_control]
    · rw [e]
      rcases Reply.done_cases (op (s.at t)) .packet k.code with ⟨_, d⟩ | ⟨why, _, d⟩
      · rw [d, owner, State.at_control]
      · rw [d, raiseRefusal_control_health, owner, State.at_control]

/-- A command whose owner leaves the control channel as it is leaves the health counter as it is. -/
theorem command_control_health_of_control {t : Time} {k : Kind} {em : Bool} {op : State → Reply} {s u : State}
    (owner : ∀ v, (op v).state.control = v.control) (taken : command t k em op s = .next u) :
    u.control.health = s.control.health :=
  command_control_health (fun v => congrArg Control.health (owner v)) taken

theorem badLength_control_health {t : Time} {k : Kind} {s u : State} (taken : badLength t k s = .next u) :
    u.control.health = s.control.health := by
  unfold badLength at taken
  split at taken
  · injection taken with e; rw [← e]
  · injection taken with e; rw [← e]; simp

theorem event_control_health {t : Time} {f : State → State} {s u : State}
    (stage : ∀ v, (f v).control.health = v.control.health) (taken : event t f s = .next u) :
    u.control.health = s.control.health := by
  rcases event_cases taken with ⟨_, rfl⟩ | ⟨_, rfl⟩
  · rfl
  · rw [settle_control_health, stage, State.at_control]

theorem execLoad_control_health {t : Time} {table : Byte} {first : BitVec 16} {count flags : Byte} {entries : List Byte}
    {s u : State} (taken : execLoad t table first count flags entries s = .next u) :
    u.control.health = s.control.health := by
  unfold execLoad at taken
  split at taken
  · exact command_control_health (loadOp_control_health _ _ _ _ _ _ _) taken
  · exact badLength_control_health taken

theorem execAssetData_control_health {t : Time} {id : BitVec 16} {offset : BitVec 40} {data : List Byte}
    {s u : State} (taken : execAssetData t id offset data s = .next u) : u.control.health = s.control.health := by
  unfold execAssetData at taken
  split at taken
  · exact badLength_control_health taken
  · split at taken
    · cases taken
    · exact command_control_health_of_control (assetDataOp_control _ _ _ _) taken

/-- The owner's answer to any command but CONTROL_RESET leaves the health counter as it is. -/
theorem runCommand_control_health {c : Instr} {s u : State} (other : ∀ t, c ≠ .controlReset t)
    (taken : runCommand c s = .next u) : u.control.health = s.control.health := by
  cases c with
  | controlReset t => exact absurd rfl (other t)
  | resume t => exact command_control_health (resumeOp_control_health _) taken
  | statusRequest t => exact command_control_health statusRequestOp_control_health taken
  | load t table first count flags entries => exact execLoad_control_health taken
  | readTable t table first count => exact command_control_health (readTableOp_control_health _ _ _) taken
  | layoutSelect t layout => exact command_control_health_of_control (layoutSelectOp_control _) taken
  | assetOpen t id kind width height frames interval =>
    exact command_control_health_of_control (assetOpenOp_control _ _ _ _ _ _ _) taken
  | assetData t id offset data => exact execAssetData_control_health taken
  | assetClose t id check => exact command_control_health (assetCloseOp_control_health _ _) taken
  | assetDrop t id => exact command_control_health_of_control (assetDropOp_control _) taken
  | recordStart t source => exact command_control_health_of_control (recordStartOp_control _) taken
  | recordStop t => exact command_control_health_of_control recorderStop_control taken
  | markIn t mark point number label => exact command_control_health_of_control (markInOp_control _ _ _ _) taken
  | markOut t mark point number => exact command_control_health_of_control (markOutOp_control _ _ _) taken
  | markClear t mark => exact command_control_health_of_control (markClearOp_control _) taken
  | cue t mark => exact command_control_health_of_control (cueOp_control _) taken
  | play t mark n d endAction => exact command_control_health_of_control (playOp_control _ _ _ _) taken
  | pause t => exact command_control_health_of_control pauseOp_control taken
  | continuePlay t => exact command_control_health_of_control continueOp_control taken
  | step t amount => exact command_control_health_of_control (stepOp_control _) taken
  | playerStop t => exact command_control_health_of_control playerStop_control taken
  | clockStart t channel => exact command_control_health_of_control (clockStartOp_control _ _) taken
  | clockStop t channel => exact command_control_health (clockStopOp_control_health _ _) taken
  | clockSet t channel ms => exact command_control_health_of_control (clockSetOp_control _ _ _) taken
  | clockAdjust t channel ms => exact command_control_health_of_control (clockAdjustOp_control _ _ _) taken
  | clockPreset t channel => exact command_control_health_of_control (clockPresetOp_control _ _) taken
  | clockReport t channel ms running => exact command_control_health_of_control (clockReportOp_control _ _ _ _) taken
  | scoreSet t field value => exact command_control_health_of_control (scoreSetOp_control _ _ _) taken
  | scoreAdd t field delta => exact command_control_health_of_control (scoreAddOp_control _ _ _) taken
  | contractPause t contract => exact command_control_health_of_control (contractPauseOp_control _) taken
  | contractResume t contract => exact command_control_health_of_control (contractResumeOp_control _) taken
  | periodClose t => exact command_control_health periodCloseOp_control_health taken
  | settleRemove t n => exact command_control_health_of_control (settleRemoveOp_control _) taken
  | post t tag cls strip lane mode pace repeats lifetime => exact command_control_health (postOp_control_health _ _) taken
  | withdraw t tag => exact command_control_health (withdrawOp_control_health _ _) taken
  | clearClass t cls => exact command_control_health (clearClassOp_control_health _ _) taken
  | horn t ms => exact command_control_health_of_control (hornOp_control _ _) taken
  | cueArm t index => exact command_control_health_of_control (cueArmOp_control _ _) taken
  | cueDisarm t index => exact command_control_health_of_control (cueArmOp_control _ _) taken
  | _ => injection taken with e; rw [← e]

/-! ### CONTROL_RESET -/

theorem controlResetOp_done_control_health (t : Time) (o : Origin) (k : Nat) (s : State) :
    ((controlResetOp t s).done o k).control.health = 0 := by
  unfold controlResetOp
  rw [accept_done, raiseStatus_control_health, recorderStop_control, playerStop_control, emptyQueue_control]
  rfl

/-- CONTROL_RESET leaves the counter at 0, or as it was where RESETN is low (R26, R46). -/
theorem execControlReset_control_health_cases {t : Time} {s u : State} (taken : execControlReset t s = .next u) :
    u.control.health = s.control.health ∨ u.control.health = 0 := by
  unfold execControlReset at taken
  rcases command_cases taken with ⟨_, rfl⟩ | ⟨_, rfl⟩
  · exact .inl rfl
  · rw [settle_control_health]
    rcases dispatch_cases .controlReset false (controlResetOp t) (s.at t) with ⟨why, _, e⟩ | ⟨_, e⟩
    · rw [e, raiseRefusal_control_health]
      exact .inl rfl
    · rw [e]
      exact .inr (controlResetOp_done_control_health t _ _ _)

/-- CONTROL_RESET where it is taken (R26, R46). -/
theorem execControlReset_control_health {t : Time} {s : State} (taken : s.takes .controlReset) :
    ∃ u, execControlReset t s = .next u ∧ u.control.health = 0 := by
  obtain ⟨outside, _, passes⟩ := taken
  unfold execControlReset
  refine ⟨_, command_taken (controlResetOp t) outside passes, ?_⟩
  rw [settle_control_health]
  exact controlResetOp_done_control_health t _ _ _

/-! ### A packet's arrival -/

@[simp] theorem setHealth_control_health (n : Nat) (s : State) : (setHealth n s).control.health = n := by
  unfold setHealth
  dsimp only
  split
  · rfl
  · split <;> simp

@[simp] theorem setHealth_active (n : Nat) (s : State) : (setHealth n s).active = s.active := by
  unfold setHealth
  dsimp only
  split
  · rfl
  · split <;> simp

/-- No payload but that of KIND CONTROL_RESET is read as a control reset (R23). Of the other kinds, LOAD and ASSET_DATA take
any tail behind their header; the payload of each of the rest has one length. -/
theorem kind_of_decodePayload_controlReset {t t' : Time} {k : Kind} {p : List Byte}
    (h : decodePayload t k p = some (.controlReset t')) : k = .controlReset := by
  cases k
  case controlReset => rfl
  case load =>
    rcases p with _ | ⟨table, _ | ⟨f1, _ | ⟨f0, _ | ⟨count, _ | ⟨flags, entries⟩⟩⟩⟩⟩
    case cons.cons.cons.cons.cons =>
      change (if loadFits table count entries then _ else _) = _ at h
      split at h <;> cases h
    all_goals cases h
  case assetData =>
    rcases p with _ | ⟨i1, _ | ⟨i0, _ | ⟨o4, _ | ⟨o3, _ | ⟨o2, _ | ⟨o1, _ | ⟨o0, data⟩⟩⟩⟩⟩⟩⟩
    case cons.cons.cons.cons.cons.cons.cons =>
      change (if segmentFits data then _ else _) = _ at h
      split at h <;> cases h
    all_goals cases h
  all_goals repeat' first | cases h | cases ‹List Byte›

/-- A KIND byte names the KIND of that value (R23). -/
theorem toNat_of_kindOf? {b : Byte} {k : Kind} (h : kindOf? b = some k) : b.toNat = k.code := by
  unfold kindOf? at h
  have code := List.find?_some h
  exact (of_decide_eq_true code).symm

/-- An accepted packet leaves the counter as its check left it, or at 0 by a CONTROL_RESET (R26, R46). -/
theorem acceptPacket_control_health_cases {t : Time} {p : Packet} {s u : State} (taken : acceptPacket t p s = .next u) :
    u.control.health = s.control.health ∨ (p.kind = 2 ∧ u.control.health = 0) := by
  unfold acceptPacket at taken
  dsimp only at taken
  split at taken
  · injection taken with e
    left; rw [← e]; simp
  next k named =>
    split at taken
    · injection taken with e
      left; rw [← e]; simp
    next c read =>
      by_cases reset : ∃ t', c = .controlReset t'
      · obtain ⟨t', rfl⟩ := reset
        have kind : p.kind = 2 :=
          BitVec.eq_of_toNat_eq (by rw [toNat_of_kindOf? named, kind_of_decodePayload_controlReset read]; rfl)
        rcases execControlReset_control_health_cases taken with kept | zero
        · left; rw [kept, attend_control_health]
        · exact .inr ⟨kind, zero⟩
      · left
        rw [runCommand_control_health (fun t' e => reset ⟨t', e⟩) taken, attend_control_health]

/-- What an examined packet makes of the counter: 8 more for a failed check, 1 less for a correct one, or 0 for an accepted
CONTROL_RESET (R26). -/
theorem examinePacket_control_health_cases {t : Time} {bytes : List Byte} {s u : State}
    (taken : examinePacket t bytes s = .next u) :
    (readPacket? bytes = none ∧ u.control.health = min 511 (s.control.health + 8)) ∨
      ∃ p, readPacket? bytes = some p ∧
        (u.control.health = s.control.health - 1 ∨ (accepted s.unit p = true ∧ p.kind = 2 ∧ u.control.health = 0)) := by
  unfold examinePacket at taken
  split at taken
  next failed =>
    injection taken with e
    left; exact ⟨failed, by rw [← e, setHealth_control_health]; rfl⟩
  next p correct =>
    right
    refine ⟨p, correct, ?_⟩
    have unit : (setHealth (healthAfter true s.control.health) s).unit = s.unit :=
      State.unit_congr _ _ (setHealth_active _ _)
    dsimp only at taken
    rw [unit] at taken
    split at taken
    next addressed =>
      rcases acceptPacket_control_health_cases taken with kept | ⟨kind, zero⟩
      · left; rw [kept, setHealth_control_health]; rfl
      · exact .inr ⟨addressed, kind, zero⟩
    · injection taken with e
      left; rw [← e, setHealth_control_health]; rfl

@[simp] theorem countPacket_control (i : InputId) (s : State) : (countPacket i s).control = s.control :=
  State.setReceiver_control _ _ _

theorem countPacket_unit (i : InputId) (s : State) : (countPacket i s).unit = s.unit :=
  State.unit_congr _ _ (State.setReceiver_active _ _ _)

/-- A packet that is not examined leaves the counter as it is (R26). -/
theorem execPacketArrival_not_examined {t : Time} {i : InputId} {bytes : List Byte} {s u : State}
    (idle : examined s i bytes = false) (taken : execPacketArrival t i bytes s = .next u) :
    u.control.health = s.control.health := by
  unfold execPacketArrival at taken
  rw [idle] at taken
  split at taken
  · injection taken with e; rw [← e]
  · injection taken with e; rw [← e]; rfl

/-- A packet that is examined, outside reset, counts for health (R26). -/
theorem execPacketArrival_examined {t : Time} {i : InputId} {bytes : List Byte} {s u : State} (outside : s.inReset = false)
    (looked : examined s i bytes = true) (taken : execPacketArrival t i bytes s = .next u) :
    (readPacket? bytes = none ∧ u.control.health = min 511 (s.control.health + 8)) ∨
      ∃ p, readPacket? bytes = some p ∧
        (u.control.health = s.control.health - 1 ∨ (accepted s.unit p = true ∧ p.kind = 2 ∧ u.control.health = 0)) := by
  unfold execPacketArrival at taken
  rw [outside, looked] at taken
  have counts := examinePacket_control_health_cases (t := t) (s := countPacket i (s.at t)) taken
  rw [countPacket_control, countPacket_unit] at counts
  exact counts

theorem execPacketArrival_control_health_le {t : Time} {i : InputId} {bytes : List Byte} {s u : State}
    (range : s.control.health ≤ 511) (taken : execPacketArrival t i bytes s = .next u) : u.control.health ≤ 511 := by
  cases reset : s.inReset with
  | true =>
    unfold execPacketArrival at taken
    rw [reset] at taken
    injection taken with e
    rwa [← e]
  | false =>
    cases looked : examined s i bytes with
    | false => rwa [execPacketArrival_not_examined looked taken]
    | true =>
      rcases execPacketArrival_examined reset looked taken with ⟨_, failed⟩ | ⟨p, _, correct | ⟨_, _, zero⟩⟩ <;> omega

/-! ### Every step -/

theorem execHoldTimerExpiry_control_health {t : Time} {i : InputId} {s u : State}
    (taken : execHoldTimerExpiry t i s = .next u) : u.control.health = s.control.health := by
  unfold execHoldTimerExpiry at taken
  refine event_control_health (fun v => ?_) taken
  split
  · exact holdExpired_control_health _ _ _
  · rfl

theorem execRelockWindowExpiry_control_health {t : Time} {s u : State} (taken : execRelockWindowExpiry t s = .next u) :
    u.control.health = s.control.health := by
  unfold execRelockWindowExpiry at taken
  refine event_control_health (fun v => ?_) taken
  split <;> rfl

theorem execOutputFrameStart_control_health {t : Time} {o : FrameOrder} {s u : State}
    (taken : execOutputFrameStart t o s = .next u) : u.control.health = s.control.health := by
  unfold execOutputFrameStart at taken
  refine event_control_health (fun v => ?_) taken
  split
  · exact frameStart_control_health _ _ _
  · rfl

/-- Every event but the arrival of a packet, and every command but the two resets, leaves the counter as it is. -/
theorem exec_control_health {i : Instr} {s u : State} (noRelease : ∀ pins, i ≠ .deviceReset pins)
    (noReset : ∀ t, i ≠ .controlReset t) (noPacket : ∀ t j bytes, i ≠ .packetArrival t j bytes)
    (taken : exec i s = .next u) : u.control.health = s.control.health := by
  cases i with
  | deviceReset pins => exact absurd rfl (noRelease pins)
  | packetArrival t j bytes => exact absurd rfl (noPacket t j bytes)
  | dramInitDone t => exact event_control_health (dramReady_control_health _) taken
  | signalPresent t j => exact event_control_health (fun v => congrArg Control.health (signalOn_control j v)) taken
  | signalAbsent t j => exact event_control_health (signalOff_control_health _ _) taken
  | inputFrameStart t j f => exact event_control_health (inputFrame_control_health _ _ _) taken
  | acquiringFrameTimeout t j =>
    exact event_control_health (fun v => congrArg Control.health (acquiringTimeout_control t j v)) taken
  | lockedFrameTimeout t j => exact event_control_health (lockedTimeout_control_health _ _) taken
  | holdTimerExpiry t j => exact execHoldTimerExpiry_control_health taken
  | relockWindowExpiry t => exact execRelockWindowExpiry_control_health taken
  | outputFrameStart t o => exact execOutputFrameStart_control_health taken
  | loadTimerExpiry t table => exact event_control_health (loadTimeout_control_health _ _) taken
  | unattendedTimerExpiry t => exact event_control_health (unattendedExpiry_control_health _) taken
  | assetLoadTimerExpiry t id => exact event_control_health (assetTimeout_control_health _ _) taken
  | contactLevelChange t line high =>
    exact event_control_health (fun v => congrArg Control.health (lineChange_control t line high v)) taken
  | contactFilterExpiry t line => exact event_control_health (filterExpiry_control_health _ _) taken
  | hornEnd t => exact event_control_health (fun v => congrArg Control.health (endHorn_control t v)) taken
  | resetnHeldLow t => injection taken with e; rw [← e]
  | _ => exact runCommand_control_health noReset taken

theorem execDeviceReset_control_health (pins : Pins) (s : State) :
    ∃ u, execDeviceReset pins s = .next u ∧ u.control.health = 0 :=
  ⟨{ State.released pins with pending := s.pending }, rfl, rfl⟩

/-- No command and no event takes the counter above its top (R26). -/
theorem exec_control_health_le {i : Instr} {s u : State} (range : s.control.health ≤ 511) (taken : exec i s = .next u) :
    u.control.health ≤ 511 := by
  by_cases release : ∃ pins, i = .deviceReset pins
  · obtain ⟨pins, rfl⟩ := release
    obtain ⟨v, released, zero⟩ := execDeviceReset_control_health pins s
    have same : v = u := Host.Outcome.next.inj (released.symm.trans taken)
    rw [← same, zero]
    omega
  by_cases reset : ∃ t, i = .controlReset t
  · obtain ⟨t, rfl⟩ := reset
    rw [exec_controlReset] at taken
    rcases execControlReset_control_health_cases taken with kept | zero <;> omega
  by_cases packet : ∃ t j bytes, i = .packetArrival t j bytes
  · obtain ⟨t, j, bytes, rfl⟩ := packet
    exact execPacketArrival_control_health_le range taken
  · have kept := exec_control_health (fun pins e => release ⟨pins, e⟩) (fun t e => reset ⟨t, e⟩)
      (fun t j bytes e => packet ⟨t, j, bytes, e⟩) taken
    omega

theorem step_control_health_le {s u : State} (range : s.control.health ≤ 511) (taken : step s = .next u) :
    u.control.health ≤ 511 := by
  unfold step at taken
  split at taken
  · injection taken with e; rwa [← e]
  · refine exec_control_health_le ?_ taken
    exact range

end Sys2Proof.Machine
end

section
/-! PROOFS. The in-band control channel (chapter 2). -/

namespace Sys2Proof.Machine

/-- Settles O15: only a checked packet and the two resets change the health counter, so its range and its values after each
of them follow from what these make of it (R26, R46). -/
theorem healthCounter : Obligations.HealthCounter := by
  unfold Obligations.HealthCounter
  refine ⟨?range, ?packets, ?deviceReset, ?controlReset⟩
  case range => exact fun s s' => step_control_health_le
  case packets =>
    intro t i bytes s s' ⟨outside, _⟩ taken
    refine ⟨fun idle => execPacketArrival_not_examined idle taken, fun looked failed => ?_, fun p looked correct => ?_⟩
    · rcases execPacketArrival_examined outside looked taken with ⟨_, counted⟩ | ⟨p, read, _⟩
      · exact counted
      · rw [failed] at read; cases read
    · rcases execPacketArrival_examined outside looked taken with ⟨failed, _⟩ | ⟨q, read, counted⟩
      · rw [correct] at failed; cases failed
      · rw [correct] at read
        injection read with same
        rw [same]
        exact counted
  case deviceReset =>
    intro pins s
    rw [exec_deviceReset]
    exact execDeviceReset_control_health pins s
  case controlReset => exact fun t s taken => execControlReset_control_health taken

end Sys2Proof.Machine
end

section
/-! SUPPORT. A number read as an index, a command whose owner's answer is known, and what the owners of the mark commands
can answer (R29, R91 to R94, R100). -/

namespace Sys2Proof.Machine

/-! ### Indices -/

@[simp] theorem index?_val {k : Nat} (m : Fin k) : index? k m.val = some m := dif_pos m.isLt

theorem index?_of_le {k n : Nat} (h : k ≤ n) : index? k n = none := dif_neg (Nat.not_lt.mpr h)

/-! ### A command whose owner's answer is known -/

theorem State.takes.noTrigger {s : State} {k : Kind} {em : Bool} (takes : s.takes k em) : s.cues.pendingTriggers = [] := by
  obtain ⟨_, noTrigger, _⟩ := takes
  exact noTrigger

/-- A command that its owner takes without a trigger comes to the owner's state. -/
theorem command_accepted {t : Time} {k : Kind} {em : Bool} {op : State → Reply} {s u : State} (takes : s.takes k em)
    (answer : op (s.at t) = accept u) (noTrigger : u.cues.pendingTriggers = []) : command t k em op s = .next u := by
  obtain ⟨running, -, healthy⟩ := takes
  rw [command_taken op running healthy, answer, accept_done, settle_idle noTrigger]

/-- A command that its owner refuses comes to one REFUSAL report (R29). -/
theorem command_refused {t : Time} {k : Kind} {em : Bool} {op : State → Reply} {s : State} {why : Reason}
    (takes : s.takes k em) (answer : op (s.at t) = refuse (s.at t) why) :
    command t k em op s = .next (s.refusing t k why) := by
  obtain ⟨running, noTrigger, healthy⟩ := takes
  rw [command_taken op running healthy, answer, refuse_done, settle_idle]
  · rfl
  · simpa using noTrigger

/-! ### The clip marks -/

theorem State.setMark_marks_ne (s : State) {n m : Fin 16} (v : Mark) (h : n ≠ m) :
    (s.setMark n v).replay.marks[m] = s.replay.marks[m] :=
  Vector.getElem_set_ne n.isLt m.isLt (fun e => h (Fin.ext e))

/-- A mark command's owner answers `r` in `s`: it refuses, or it sets one mark that is not in use (R92 to R94). -/
def SetsUnusedMark (s : State) (r : Reply) : Prop :=
  (∃ why, r = refuse s why) ∨ ∃ n v, s.replay.inUse n = false ∧ r = accept (s.setMark n v)

theorem refuse_setsUnusedMark (s : State) (why : Reason) : SetsUnusedMark s (refuse s why) := .inl ⟨why, rfl⟩

theorem setMark_setsUnusedMark {s : State} {n : Fin 16} (v : Mark) (unused : ¬ s.replay.inUse n = true) :
    SetsUnusedMark s (accept (s.setMark n v)) := .inr ⟨n, v, Bool.eq_false_iff.mpr unused, rfl⟩

theorem markInOp_setsUnusedMark (mark kind number label : Nat) (s : State) :
    SetsUnusedMark s (markInOp mark kind number label s) := by
  unfold markInOp
  split
  · exact refuse_setsUnusedMark s _
  · split
    · exact refuse_setsUnusedMark s _
    · split
      · exact refuse_setsUnusedMark s _
      · next unused =>
        split
        · exact refuse_setsUnusedMark s _
        · exact setMark_setsUnusedMark _ unused

theorem markOutOp_setsUnusedMark (mark kind number : Nat) (s : State) :
    SetsUnusedMark s (markOutOp mark kind number s) := by
  unfold markOutOp
  split
  · exact refuse_setsUnusedMark s _
  · split
    · exact refuse_setsUnusedMark s _
    · split
      · exact refuse_setsUnusedMark s _
      · next unused =>
        split
        · exact refuse_setsUnusedMark s _
        · split
          · exact setMark_setsUnusedMark _ unused
          · split
            · exact refuse_setsUnusedMark s _
            · split
              · exact refuse_setsUnusedMark s _
              · exact setMark_setsUnusedMark _ unused

theorem markClearOp_range {mark : Nat} (s : State) (h : 16 ≤ mark) : markClearOp mark s = refuse s .range := by
  rw [markClearOp, index?_of_le h]

theorem markClearOp_val (m : Fin 16) (s : State) :
    markClearOp m.val s = if s.replay.inUse m then refuse s .busy else accept (s.setMark m .empty) := by
  rw [markClearOp, index?_val]

theorem markClearOp_setsUnusedMark (mark : Nat) (s : State) : SetsUnusedMark s (markClearOp mark s) := by
  by_cases h : mark < 16
  · rw [markClearOp_val ⟨mark, h⟩]
    split
    · exact refuse_setsUnusedMark s _
    · next unused => exact setMark_setsUnusedMark _ unused
  · rw [markClearOp_range s (Nat.not_lt.mp h)]
    exact refuse_setsUnusedMark s _

/-- A command whose owner sets at most one mark, and that one not in use, leaves a mark in use as it is, also where the health
state refuses the command. -/
theorem command_keeps_mark_inUse {t : Time} {k : Kind} {em : Bool} {op : State → Reply} {s : State} {m : Fin 16}
    (owner : ∀ v, SetsUnusedMark v (op v)) (quiet : s.quiet) (used : s.replay.inUse m = true) :
    ∃ u, command t k em op s = .next u ∧ u.replay.marks[m] = s.replay.marks[m] := by
  obtain ⟨running, noTrigger⟩ := quiet
  have refused : ∀ why, (settle (raiseRefusal .packet k.code why (s.at t))).replay.marks[m] = s.replay.marks[m] := by
    intro why
    rw [settle_idle (by simpa using noTrigger), raiseRefusal_replay, State.at_replay]
  refine ⟨settle (dispatch k em op (s.at t)), by rw [command, if_neg (by simp [running])], ?_⟩
  rcases dispatch_cases k em op (s.at t) with ⟨why, _, e⟩ | ⟨_, e⟩
  · rw [e]; exact refused why
  · rw [e]
    rcases owner (s.at t) with ⟨why, answer⟩ | ⟨n, v, unused, answer⟩
    · rw [answer, refuse_done]; exact refused why
    · have other : n ≠ m := by
        rintro rfl
        exact Bool.false_ne_true (unused.symm.trans used)
      rw [answer, accept_done, settle_idle (s := (s.at t).setMark n v) noTrigger, State.setMark_marks_ne _ _ other,
        State.at_replay]

/-! ### The player -/

@[simp] theorem playerStop_cues (s : State) : (playerStop s).cues = s.cues := by
  unfold playerStop; split <;> rfl

theorem playerStop_idle (s : State) : (playerStop s).replay.player.state = .idle := by
  unfold playerStop
  split
  · next idle => exact idle
  · rfl

theorem Replay.inUse_of_idle {r : Replay} (idle : r.player.state = .idle) (m : Fin 16) : r.inUse m = false :=
  decide_eq_false fun ⟨notIdle, _⟩ => notIdle idle

end Sys2Proof.Machine
end

section
/-! PROOFS. Replay (chapter 5). -/

namespace Sys2Proof.Machine

theorem exec_markIn (t : Time) (mark point : Byte) (number : BitVec 32) (label : BitVec 16) (s : State) :
    exec (.markIn t mark point number label) s =
      command t .markIn false (markInOp mark.toNat point.toNat number.toNat label.toNat) s := rfl

theorem exec_markOut (t : Time) (mark point : Byte) (number : BitVec 32) (s : State) :
    exec (.markOut t mark point number) s =
      command t .markOut false (markOutOp mark.toNat point.toNat number.toNat) s := rfl

theorem exec_markClear (t : Time) (mark : Byte) (s : State) :
    exec (.markClear t mark) s = command t .markClear false (markClearOp mark.toNat) s := rfl

theorem exec_playerStop (t : Time) (s : State) :
    exec (.playerStop t) s = command t .playerStop false (fun s => accept (playerStop s)) s := rfl

theorem decodePayload_markClear_isSome (t : Time) (p : List Byte) :
    (decodePayload t .markClear p).isSome = true ↔ p.length = 1 := by
  rcases p with _ | ⟨mark, _ | ⟨b, rest⟩⟩
  · exact iff_of_false Bool.false_ne_true (by simp)
  · exact iff_of_true rfl rfl
  · exact iff_of_false Bool.false_ne_true (by simp)

/-- Settles O39: MARK_CLEAR's answers are read off its owner's; no owner of a mark command sets a mark in use; PLAYER_STOP
leaves the player IDLE, and an IDLE player uses no mark (R91, R94, R100). -/
theorem markClear : Obligations.MarkClear := by
  unfold Obligations.MarkClear
  refine ⟨decodePayload_markClear_isSome, ?answers, ?inUse, ?stopped⟩
  case answers =>
    intro t mark s takes
    rw [exec_markClear]
    refine ⟨fun above => command_refused takes (markClearOp_range _ above), fun m isMark =>
      ⟨fun used => ?_, fun unused => ?_⟩⟩
    · refine command_refused takes ?_
      rw [isMark, markClearOp_val, State.at_replay, if_pos used]
    · refine command_accepted takes ?_ takes.noTrigger
      rw [isMark, markClearOp_val, State.at_replay, if_neg (by simp [unused])]
  case inUse =>
    intro t m mark point number label s quiet used
    rw [exec_markIn, exec_markOut, exec_markClear]
    exact ⟨command_keeps_mark_inUse (markInOp_setsUnusedMark _ _ _ _) quiet used,
      command_keeps_mark_inUse (markOutOp_setsUnusedMark _ _ _) quiet used,
      command_keeps_mark_inUse (markClearOp_setsUnusedMark _) quiet used⟩
  case stopped =>
    intro t s takes
    refine ⟨playerStop (s.at t), ?_, Replay.inUse_of_idle (playerStop_idle _)⟩
    rw [exec_playerStop]
    exact command_accepted takes rfl (by simpa using takes.noTrigger)

end Sys2Proof.Machine
end

section
/-! PROOFS. The settlement log (chapter 8). -/

namespace Sys2Proof.Machine

theorem exec_settleRemove (t : Time) (n : Byte) (s : State) :
    exec (.settleRemove t n) s = command t .settleRemove false (settleRemoveOp n.toNat) s := rfl

/-- The owner of SETTLE_REMOVE takes every n, above the number of records held too (R165). -/
theorem settleRemoveOp_at (n : Nat) (t : Time) (s : State) :
    settleRemoveOp n (s.at t) = accept { s with count := t, sponsor.log := s.sponsor.log.drop n } := rfl

theorem decodePayload_settleRemove_isSome (t : Time) (p : List Byte) :
    (decodePayload t .settleRemove p).isSome = true ↔ p.length = 1 := by
  rcases p with _ | ⟨n, _ | ⟨b, rest⟩⟩
  · exact iff_of_false Bool.false_ne_true (by simp)
  · exact iff_of_true rfl rfl
  · exact iff_of_false Bool.false_ne_true (by simp)

/-- Settles O52: the owner takes the command with a shorter log and no report, and raises no trigger for the cue unit
(R165). -/
theorem settleRemove : Obligations.SettleRemove := by
  unfold Obligations.SettleRemove
  refine ⟨decodePayload_settleRemove_isSome, fun t n s takes => ?_⟩
  rw [exec_settleRemove]
  exact command_accepted takes (settleRemoveOp_at _ t s) takes.noTrigger

end Sys2Proof.Machine
end
